-- ==== Sys2Proof/Word.lean ====
section
/-! DEFINITION. Word.lean: the bit-vector types of the block (00_scope.md R7, R13; 30_encoding.md R70, R79). -/

namespace Sys2Proof

/-- A wire byte (30_encoding.md R82), a colour channel (R73) or a refresh percentage (R75). -/
abbrev Byte := BitVec 8

/-- A pixel word, a pixel index or the strand length: 16 bits (R72, R79; 00_scope.md R6). -/
abbrev Word16 := BitVec 16

/-- A command word: 64 bits (R70). -/
abbrev CommandWord := BitVec 64

end Sys2Proof
end

