-- ==== Sys2Proof/Syntax.lean ====
section
/-! DEFINITION. Syntax.lean: the events of the block (30_encoding.md R71), the agents and the ports they come
through (00_scope.md R11; 10_state.md R40), and the assembler's lines (R84, R85). -/

namespace Sys2Proof

/-- The ten events of the opcode map (R71), one constructor per row of `opcode_table.json`. -/
inductive Instr where
  /-- `TICK`: the step function, one invocation (41_sequencer.md R131). -/
  | tick
  /-- `SHOW` (41_sequencer.md R140). -/
  | showFrame
  /-- `FLUSH` (42_driver_control.md R172). -/
  | flush
  /-- `SETCOLOR.RGB index, r, g, b` (40_pixel_buffer.md R101). -/
  | setColorRgb (index : Word16) (r g b : Byte)
  /-- `SETCOLOR.RAW index, word` (40_pixel_buffer.md R102). -/
  | setColorRaw (index word : Word16)
  /-- `GET index` (40_pixel_buffer.md R105). -/
  | getPixel (index : Word16)
  /-- `PIXELCOUNT` (40_pixel_buffer.md R107). -/
  | pixelCount
  /-- `BEGIN` (42_driver_control.md R170). -/
  | beginBlock
  /-- `END`, both of its steps (42_driver_control.md R173, R174). -/
  | endBlock
  /-- `SETREFRESHRATE pct` (42_driver_control.md R176). -/
  | setRefreshRate (pct : Byte)
  deriving DecidableEq, Repr

/-- The two agents that take steps (00_scope.md R11). -/
inductive Agent where
  | timer
  | foreground
  deriving DecidableEq, Repr, Inhabited

/-- The two input ports (10_state.md R40). -/
inductive Port where
  | tickIn
  | cmdIn
  deriving DecidableEq, Repr

/-- One line of assembler text after reading its numbers (R84), before the range check: the mnemonics, the alias
`LENGTH` (R85) among them, with operands of any size. -/
inductive AsmLine where
  | tick
  | showFrame
  | flush
  | setColorRgb (index r g b : Nat)
  | setColorRaw (index word : Nat)
  | getPixel (index : Nat)
  | pixelCount
  | length
  | beginBlock
  | endBlock
  | setRefreshRate (pct : Nat)
  deriving DecidableEq, Repr

end Sys2Proof
end

