-- ==== Sys2Proof/WellFormed.lean ====
section
/-! DEFINITION. WellFormed.lean: which event may come through which port (30_encoding.md R78) and which operands an
assembler line may carry (R84). The operands of `Instr` have exactly the widths of R72 to R75, so an instruction
itself has nothing more to check. -/

namespace Sys2Proof

/-- The port an event comes through: TICK on `tick_in`, every Foreground command on `cmd_in` (R78; 10_state.md R40). -/
def Instr.port : Instr → Port
  | .tick => .tickIn
  | .showFrame => .cmdIn
  | .flush => .cmdIn
  | .setColorRgb _ _ _ _ => .cmdIn
  | .setColorRaw _ _ => .cmdIn
  | .getPixel _ => .cmdIn
  | .pixelCount => .cmdIn
  | .beginBlock => .cmdIn
  | .endBlock => .cmdIn
  | .setRefreshRate _ => .cmdIn

/-- The event is well formed on the port: it is one that the port carries. -/
def Instr.wellFormedOn (p : Port) (i : Instr) : Bool := i.port == p

/-- The operand ranges of R84. -/
def AsmLine.wellFormed : AsmLine → Bool
  | .tick => true
  | .showFrame => true
  | .flush => true
  | .setColorRgb index r g b => index ≤ 65535 && r ≤ 255 && g ≤ 255 && b ≤ 255
  | .setColorRaw index word => index ≤ 65535 && word ≤ 65535
  | .getPixel index => index ≤ 65535
  | .pixelCount => true
  | .length => true
  | .beginBlock => true
  | .endBlock => true
  | .setRefreshRate pct => pct ≤ 255

end Sys2Proof
end

