-- ==== Sys2Proof/Decode.lean ====
section
/-! DEFINITION. Decode.lean: command words (30_encoding.md R70 to R78, R86): the fields, the total decoder, the
encoder, the rows of `opcode_table.json`, and the numbering the opcode table uses. -/

namespace Sys2Proof

/-- The four fields of a command word (R70). -/
structure CommandFields where
  op : Byte
  z0 : Byte
  index : Word16
  data : BitVec 32
  deriving DecidableEq, Repr

/-- The fields at the bit positions of R70: `op` 63:56, `z0` 55:48, `index` 47:32, `data` 31:0. -/
def fieldsOf (w : CommandWord) : CommandFields where
  op := w.extractLsb' 56 8
  z0 := w.extractLsb' 48 8
  index := w.extractLsb' 32 16
  data := w.extractLsb' 0 32

/-- The command word with the given fields (R70). -/
def wordOf (f : CommandFields) : CommandWord := f.op ++ f.z0 ++ f.index ++ f.data

/-- Why a word spells no command on its port. The block raises `IllegalCommand` for each (60_exceptions.md R203). -/
inductive DecodeError where
  /-- `op` is none of R71's values (R77). -/
  | reservedOpcode (op : Byte)
  /-- A defined `op` with a non-zero reserved bit (R76). -/
  | reservedBits (op : Byte)
  /-- The TICK word from the Foreground, or a Foreground command on `tick_in` (R78). -/
  | wrongPort (p : Port)
  deriving DecidableEq, Repr

/-- The instruction, if its reserved bits (R76) are all 0. -/
def ifReservedClear (op : Byte) (clear : Bool) (i : Instr) : Except DecodeError Instr :=
  if clear then .ok i else .error (.reservedBits op)

/-- `r` of SETCOLOR.RGB: `data[23:16]` (R73). -/
def dataRed (data : BitVec 32) : Byte := data.extractLsb' 16 8

/-- `g` of SETCOLOR.RGB: `data[15:8]` (R73). -/
def dataGreen (data : BitVec 32) : Byte := data.extractLsb' 8 8

/-- `b` of SETCOLOR.RGB and `pct` of SETREFRESHRATE: `data[7:0]` (R73, R75). -/
def dataLow (data : BitVec 32) : Byte := data.extractLsb' 0 8

/-- `word` of SETCOLOR.RAW: `data[15:0]` (R74). -/
def dataWord (data : BitVec 32) : Word16 := data.extractLsb' 0 16

/-- SETCOLOR.RGB's data: `data[31:24]` 0, then r, g, b (R73). -/
def rgbData (r g b : Byte) : BitVec 32 := 0#8 ++ r ++ g ++ b

/-- SETCOLOR.RAW's data: `data[31:16]` 0, then the word (R74). -/
def rawData (word : Word16) : BitVec 32 := 0#16 ++ word

/-- SETREFRESHRATE's data: `data[31:8]` 0, then `pct` (R75). -/
def pctData (pct : Byte) : BitVec 32 := 0#24 ++ pct

/-- The opcode map of R71 with the reserved fields of R76. -/
def decodeFields (f : CommandFields) : Except DecodeError Instr :=
  if f.op = 0x01#8 then
    ifReservedClear f.op (f.z0 == 0#8 && f.index == 0#16 && f.data == 0#32) .tick
  else if f.op = 0x10#8 then
    ifReservedClear f.op (f.z0 == 0#8 && f.index == 0#16 && f.data == 0#32) .showFrame
  else if f.op = 0x11#8 then
    ifReservedClear f.op (f.z0 == 0#8 && f.index == 0#16 && f.data == 0#32) .flush
  else if f.op = 0x20#8 then
    ifReservedClear f.op (f.z0 == 0#8 && f.data.extractLsb' 24 8 == 0#8)
      (.setColorRgb f.index (dataRed f.data) (dataGreen f.data) (dataLow f.data))
  else if f.op = 0x21#8 then
    ifReservedClear f.op (f.z0 == 0#8 && f.data.extractLsb' 16 16 == 0#16) (.setColorRaw f.index (dataWord f.data))
  else if f.op = 0x22#8 then
    ifReservedClear f.op (f.z0 == 0#8 && f.data == 0#32) (.getPixel f.index)
  else if f.op = 0x23#8 then
    ifReservedClear f.op (f.z0 == 0#8 && f.index == 0#16 && f.data == 0#32) .pixelCount
  else if f.op = 0x30#8 then
    ifReservedClear f.op (f.z0 == 0#8 && f.index == 0#16 && f.data == 0#32) .beginBlock
  else if f.op = 0x31#8 then
    ifReservedClear f.op (f.z0 == 0#8 && f.index == 0#16 && f.data == 0#32) .endBlock
  else if f.op = 0x32#8 then
    ifReservedClear f.op (f.z0 == 0#8 && f.index == 0#16 && f.data.extractLsb' 8 24 == 0#24)
      (.setRefreshRate (dataLow f.data))
  else .error (.reservedOpcode f.op)

/-- The decoder, total on 64-bit words (R77). -/
def decode (w : CommandWord) : Except DecodeError Instr := decodeFields (fieldsOf w)

/-- The decoder of a port: TICK only on `tick_in`, commands only on `cmd_in` (R78). -/
def decodeOn (p : Port) (w : CommandWord) : Except DecodeError Instr :=
  match decode w with
  | .ok i => if i.wellFormedOn p then .ok i else .error (.wrongPort p)
  | .error e => .error e

/-- The fields of an instruction's word (R71, R73 to R75, R86); every reserved bit is 0 (R76). -/
def encodeFields : Instr → CommandFields
  | .tick => ⟨0x01#8, 0#8, 0#16, 0#32⟩
  | .showFrame => ⟨0x10#8, 0#8, 0#16, 0#32⟩
  | .flush => ⟨0x11#8, 0#8, 0#16, 0#32⟩
  | .setColorRgb index r g b => ⟨0x20#8, 0#8, index, rgbData r g b⟩
  | .setColorRaw index word => ⟨0x21#8, 0#8, index, rawData word⟩
  | .getPixel index => ⟨0x22#8, 0#8, index, 0#32⟩
  | .pixelCount => ⟨0x23#8, 0#8, 0#16, 0#32⟩
  | .beginBlock => ⟨0x30#8, 0#8, 0#16, 0#32⟩
  | .endBlock => ⟨0x31#8, 0#8, 0#16, 0#32⟩
  | .setRefreshRate pct => ⟨0x32#8, 0#8, 0#16, pctData pct⟩

/-- The command word of an instruction (R86). -/
def encode (i : Instr) : CommandWord := wordOf (encodeFields i)

/-- A row of `opcode_table.json`: a word is of the row when its bits under `mask` are `pattern`. -/
structure OpcodeRow where
  pattern : CommandWord
  mask : CommandWord
  deriving DecidableEq, Repr

/-- The row of an instruction, written from `opcode_table.json` and not from the decoder above (R76: the mask covers
`op` and the row's reserved bits). -/
def Instr.row : Instr → OpcodeRow
  | .tick => ⟨0x0100000000000000#64, 0xFFFFFFFFFFFFFFFF#64⟩
  | .showFrame => ⟨0x1000000000000000#64, 0xFFFFFFFFFFFFFFFF#64⟩
  | .flush => ⟨0x1100000000000000#64, 0xFFFFFFFFFFFFFFFF#64⟩
  | .setColorRgb _ _ _ _ => ⟨0x2000000000000000#64, 0xFFFF0000FF000000#64⟩
  | .setColorRaw _ _ => ⟨0x2100000000000000#64, 0xFFFF0000FFFF0000#64⟩
  | .getPixel _ => ⟨0x2200000000000000#64, 0xFFFF0000FFFFFFFF#64⟩
  | .pixelCount => ⟨0x2300000000000000#64, 0xFFFFFFFFFFFFFFFF#64⟩
  | .beginBlock => ⟨0x3000000000000000#64, 0xFFFFFFFFFFFFFFFF#64⟩
  | .endBlock => ⟨0x3100000000000000#64, 0xFFFFFFFFFFFFFFFF#64⟩
  | .setRefreshRate _ => ⟨0x3200000000000000#64, 0xFFFFFFFFFFFFFF00#64⟩

/-- The rows of the opcode table, in its order. -/
def opcodeTable : List OpcodeRow :=
  [Instr.tick.row, Instr.showFrame.row, Instr.flush.row, (Instr.setColorRgb 0 0 0 0).row, (Instr.setColorRaw 0 0).row,
    (Instr.getPixel 0).row, Instr.pixelCount.row, Instr.beginBlock.row, Instr.endBlock.row, (Instr.setRefreshRate 0).row]

/-- The word is of the row. -/
def OpcodeRow.covers (r : OpcodeRow) (w : CommandWord) : Bool := w &&& r.mask == r.pattern

/-- The instruction whose bits, numbered as the opcode table numbers them, are `w`: a word of 64 bits has its least
significant bit at 0, and bits above `nbits` are 0. No word is longer than 64 bits (R70). -/
def decodeTableWord (nbits w : Nat) : Option Instr :=
  if nbits ≤ 64 then
    match decode (BitVec.ofNat 64 (w % 2 ^ nbits)) with
    | .ok i => some i
    | .error _ => none
  else none

end Sys2Proof
end

