-- ==== Sys2Proof/Config.lean ====
section
/-! DEFINITION. Config.lean: the constants the spec fixes (00_scope.md R10), its OPEN parameters (R8, R9, D10), and
the free choice between the two agents (60_exceptions.md R211). An `opaque` constant has no body: no proof can see
its value. -/

namespace Sys2Proof

/-- `TICK_PERIOD_US` (00_scope.md R8): OPEN, no rule reads it. Its type Nat is a DESIGN CHOICE (log 12), safe. -/
opaque Config.tickPeriodUs : Nat

/-- `refreshPeriod : UInt8 -> Nat` (00_scope.md R9; 42_driver_control.md R176): OPEN. -/
opaque Config.refreshPeriod : Byte → Nat

/-- `SERIAL_CLOCK_MODE` (00_scope.md R9): OPEN. Its type Nat is a DESIGN CHOICE (log 12), safe. -/
opaque Config.serialClockMode : Nat

/-- `SERIAL_CLOCK_DIVIDER` (00_scope.md R9): OPEN. Its type Nat is a DESIGN CHOICE (log 12), safe. -/
opaque Config.serialClockDivider : Nat

/-- Which agent goes first when both have an enabled step and the environment's `schedule` fixes no order, a free
choice at every turn (60_exceptions.md R211). DESIGN CHOICE (log 5), safe: a claim holds for every choice. -/
opaque Config.freeAgent : Nat → Agent

/-- The strand length of the construction that `State.reset` stands for. DESIGN CHOICE (log 1), unsafe where a
statement is about `State.reset` alone: the spec leaves N a parameter (00_scope.md R6). -/
def Config.resetNumLeds : Word16 := 3#16

end Sys2Proof
end

