-- ==== Sys2Proof/Machine/State.lean ====
section
/-! DEFINITION. Machine/State.lean: every piece of state of the block (10_state.md, 20_memory.md), the reasons a step
can stop, and the state after reset (70_reset_and_hazards.md R230, R231). -/

namespace Sys2Proof.Machine

/-- The phase register (10_state.md R22, R23). -/
inductive Phase where
  /-- Resting and throttling, the source's "Idle/Start". -/
  | idle
  /-- The 4-byte all-zero start frame. -/
  | header
  /-- The pixel words. -/
  | data
  /-- Zero bytes until the next SHOW. -/
  | done
  deriving DecidableEq, Repr

/-- The five fault names (60_exceptions.md R202). -/
inductive FaultName where
  | illegalCommand
  | midFrameWrite
  | tickWhileStopped
  | beginTwice
  | getOutOfRange
  deriving DecidableEq, Repr

/-- A recorded fault: its name with the information R202's table records. -/
inductive FaultRecord where
  | illegalCommand (word : CommandWord)
  | midFrameWrite (word : CommandWord) (phase : Phase)
  | tickWhileStopped (phase : Phase)
  | beginTwice
  | getOutOfRange (index : Word16)
  deriving DecidableEq, Repr

/-- The bit order handed to the serial driver (60_exceptions.md R222). -/
inductive BitOrder where
  | msbFirst
  | lsbFirst
  deriving DecidableEq, Repr

/-- A call the block makes to one of its two collaborators (60_exceptions.md R221, R222), `transmitByte` apart, whose
bytes are `txlog`. -/
inductive Call where
  /-- `serial.configure(bitOrder, clockMode, clockDivider)`. -/
  | serialConfigure (order : BitOrder) (mode divider : Nat)
  /-- `serial.shutdown()`. -/
  | serialShutdown
  /-- `timer.initialize(periodMicroseconds)`. -/
  | timerInitialize (period : Nat)
  /-- `timer.attachCallback(TICK)`. -/
  | timerAttach
  /-- `timer.detachCallback()`. -/
  | timerDetach
  /-- `timer.stop()`. -/
  | timerStop
  deriving DecidableEq, Repr

/-- The storage of the pixel buffer: the byte cells that differ from the reset contents, addresses strictly rising
(20_memory.md R50, R52; the byte view is a DESIGN CHOICE, log 2, safe). -/
abbrev Memory := List Host.Cell

/-- The state of the block. -/
structure State where
  /-- `pix` (20_memory.md R50): word i is the cells 2i (bits 15:8) and 2i+1 (bits 7:0). -/
  pix : Memory
  /-- `N`, fixed at construction (00_scope.md R6). -/
  numLeds : Word16
  /-- `phase` (10_state.md R22). -/
  phase : Phase
  /-- `bc`, the byte-within-phase counter (R24). -/
  bc : Byte
  /-- `cursor`, the current LED (R25). -/
  cursor : Word16
  /-- `tick`, the throttle counter mod 32 (R26). -/
  tick : BitVec 5
  /-- `running`: the timer is attached (R27). -/
  running : Bool
  /-- `begun`: BEGIN has run, sticky (R28). -/
  begun : Bool
  /-- `end_pending`: between END's two steps (R29). -/
  endPending : Bool
  /-- `result` of the last GET or PIXELCOUNT (R30). -/
  result : Word16
  /-- `rate_req`, the last SETREFRESHRATE (R31). -/
  rateReq : Byte
  /-- `fault`: the faults recorded so far, each name at most once, oldest first (R32; 60_exceptions.md R202). -/
  fault : List FaultRecord
  /-- `txlog`: the bytes emitted, oldest first (R33). -/
  txlog : List Byte
  /-- The values returned to the Foreground, oldest first: part of the observation of a run (00_scope.md R12; log 13). -/
  returns : List Word16
  /-- The calls made to the collaborators, oldest first (R40; log 12). -/
  calls : List Call
  /-- The words the Foreground has still to present on `cmd_in`, next first: its position in its own program (R21;
  log 9). -/
  cmdIn : List CommandWord
  /-- MODEL'S OWN: the order of the coming steps as far as the environment has fixed it, next first (log 5). -/
  schedule : List Agent
  /-- MODEL'S OWN: the number of the coming turn, the argument of the free choice `Config.freeAgent` (log 5). -/
  turn : Nat
  deriving DecidableEq, Repr

/-- Why a step is no next state. The spec's own five faults are not here: they are recorded in the field `fault`. -/
inductive Fault where
  /-- Raised by `step` when `fault` is not empty: neither agent has an enabled step (60_exceptions.md R208). Safe: the
  spec has no step there either. -/
  | quiescent
  /-- Raised by `step` when the Foreground is held, the timer is stopped and no event is scheduled: the wait never ends
  (70_reset_and_hazards.md R241; U15 `stuck`). Safe: the spec has no step there either. -/
  | heldForever
  /-- Raised by `step` when the timer is stopped, the Foreground has no command to present and no event is scheduled
  (60_exceptions.md R226: all state survives unchanged until the outside acts). Safe: the spec has no step there. -/
  | noEvent
  /-- Raised by TICK in DATA with `cursor >= N`: a read outside the buffer, which no reachable state forms
  (41_sequencer.md R138; 20_memory.md R57). Safe: the model stops (log 11). -/
  | cursorOutsideBuffer
  deriving DecidableEq, Repr

/-- What the model gives no meaning to. -/
inductive Refusal where
  /-- An instruction whose arm has no meaning yet. Safe. No arm uses it. -/
  | notModelled (mnemonic : String)
  /-- Raised by `construct` for a strand length outside 1..65535 (70_reset_and_hazards.md R230). Safe: the spec refuses
  it too. -/
  | badStrandLength (n : Nat)
  deriving DecidableEq, Repr

/-- The state right after `construct(n)` (70_reset_and_hazards.md R231): every field at its reset value, no program
loaded, nothing scheduled. The buffer lists no cell: an unlisted word reads 0x8000 (20_memory.md R52). -/
def State.constructed (n : Word16) : State where
  pix := []
  numLeds := n
  phase := .idle
  bc := 0#8
  cursor := 0#16
  tick := 0#5
  running := false
  begun := false
  endPending := false
  result := 0#16
  rateReq := 0#8
  fault := []
  txlog := []
  returns := []
  calls := []
  cmdIn := []
  schedule := []
  turn := 0

/-- The machine right after reset: the construction with N = 3. DESIGN CHOICE (log 1), unsafe for claims about this one
state: the spec leaves N a parameter. Every value but N, and those of the model's own fields, is R231's. -/
def State.reset : State := State.constructed Config.resetNumLeds

end Sys2Proof.Machine
end

