-- ==== Sys2Proof/Machine/Operands.lean ====
section
/-! DEFINITION. Machine/Operands.lean: the operand forms of the block: the pixel word and its fields (30_encoding.md
R79 to R81), the serializer's two byte slices (20_memory.md R53), wire bits (R54), and the codes of the named values
(10_state.md R22; 60_exceptions.md R202). -/

namespace Sys2Proof.Machine

/-- The low 5 bits of a channel, as 16 bits: `zext_16(c & 0x1F)` (30_encoding.md R80; masked, not clamped, C1). -/
def channel5 (c : Byte) : Word16 := (c &&& 0x1F#8).zeroExtend 16

/-- `pack(r, g, b)` (30_encoding.md R80). -/
def pack (r g b : Byte) : Word16 := 0x8000#16 ||| (channel5 g <<< 10) ||| (channel5 b <<< 5) ||| channel5 r

/-- `word | 0x8000`: a raw word with the marker forced on (40_pixel_buffer.md R102). -/
def markRaw (word : Word16) : Word16 := word ||| 0x8000#16

/-- Colour (0,0,0) with the marker bit set (20_memory.md R52). -/
def blackWord : Word16 := 0x8000#16

/-- The marker bit, bit 15 (30_encoding.md R79). -/
def markerOf (w : Word16) : Bool := w.getLsbD 15

/-- `green = w[14:10]` (30_encoding.md R81). -/
def greenOf (w : Word16) : BitVec 5 := w.extractLsb' 10 5

/-- `blue = w[9:5]` (30_encoding.md R81). -/
def blueOf (w : Word16) : BitVec 5 := w.extractLsb' 5 5

/-- `red = w[4:0]` (30_encoding.md R81). -/
def redOf (w : Word16) : BitVec 5 := w.extractLsb' 0 5

/-- `w[15:8]`, sent first (20_memory.md R53). -/
def highByte (w : Word16) : Byte := w.extractLsb' 8 8

/-- `w[7:0]`, sent second (20_memory.md R53). -/
def lowByte (w : Word16) : Byte := w.extractLsb' 0 8

/-- The two bytes of a pixel word in the order they are sent (20_memory.md R53). -/
def wordBytes (w : Word16) : List Byte := [highByte w, lowByte w]

/-- The bits of a byte in the order the serial driver shifts them out, bit 7 first (20_memory.md R54). PRESUMED
(log 15), safe: no rule depends on it. -/
def byteBits (b : Byte) : List Bool :=
  [b.getLsbD 7, b.getLsbD 6, b.getLsbD 5, b.getLsbD 4, b.getLsbD 3, b.getLsbD 2, b.getLsbD 1, b.getLsbD 0]

/-- The bits of a byte sequence on the wire (20_memory.md R54). -/
def wireBits (bytes : List Byte) : List Bool := bytes.flatMap byteBits

/-- The 2-bit value of the phase register (10_state.md R22). -/
def Phase.code : Phase → BitVec 2
  | .idle => 0#2
  | .header => 1#2
  | .data => 2#2
  | .done => 3#2

/-- The name of a recorded fault (60_exceptions.md R202). -/
def FaultRecord.name : FaultRecord → FaultName
  | .illegalCommand _ => .illegalCommand
  | .midFrameWrite _ _ => .midFrameWrite
  | .tickWhileStopped _ => .tickWhileStopped
  | .beginTwice => .beginTwice
  | .getOutOfRange _ => .getOutOfRange

/-- The code of a fault name (60_exceptions.md R202). -/
def FaultName.code : FaultName → Nat
  | .illegalCommand => 1
  | .midFrameWrite => 2
  | .tickWhileStopped => 3
  | .beginTwice => 4
  | .getOutOfRange => 5

end Sys2Proof.Machine
end

