-- ==== Sys2Proof/Machine/Ops.lean ====
section
/-! DEFINITION. Machine/Ops.lean: the named operations over the pixel buffer and the registers, the recording of a
fault (60_exceptions.md R202, R208), and the construction (70_reset_and_hazards.md R230). The block has no exception
entry and no return from one (R200, R212, R213): recording a fault is all there is. -/

namespace Sys2Proof.Machine

/-! ### The byte cells of the buffer -/

/-- What an unlisted cell reads as: the reset contents 0x8000 of every word (20_memory.md R52), high byte at the even
address. -/
def Memory.unlisted (a : Nat) : Byte := if a % 2 = 0 then 0x80#8 else 0x00#8

/-- Strictly rising addresses above `lo`, and no cell equal to what it would read as unlisted. -/
def Memory.wfFrom (lo : Nat) : Memory → Bool
  | [] => true
  | (a, b) :: m => lo ≤ a && b != Memory.unlisted a && Memory.wfFrom (a + 1) m

/-- The canonical form of the buffer's storage. -/
def Memory.wf (m : Memory) : Bool := Memory.wfFrom 0 m

/-- The byte at a cell address. -/
def Memory.readByte (m : Memory) (a : Nat) : Byte :=
  match m with
  | [] => Memory.unlisted a
  | (a', b) :: m' => if a = a' then b else Memory.readByte m' a

/-- A cell in front of the rest, left out when it reads as unlisted. -/
def Memory.consCell (a : Nat) (b : Byte) (m : Memory) : Memory :=
  if b = Memory.unlisted a then m else (a, b) :: m

/-- Writes one byte and keeps the canonical form. -/
def Memory.writeByte (m : Memory) (a : Nat) (b : Byte) : Memory :=
  match m with
  | [] => Memory.consCell a b []
  | (a', b') :: m' =>
    if a < a' then Memory.consCell a b ((a', b') :: m')
    else if a = a' then Memory.consCell a b m'
    else (a', b') :: Memory.writeByte m' a b

/-- Word `i`: the high byte at 2i, the low byte at 2i+1 (log 2). -/
def Memory.readWord (m : Memory) (i : Nat) : Word16 := m.readByte (2 * i) ++ m.readByte (2 * i + 1)

/-- Writes word `i`, both bytes in one operation (20_memory.md R56). -/
def Memory.writeWord (m : Memory) (i : Nat) (w : Word16) : Memory :=
  (m.writeByte (2 * i) (highByte w)).writeByte (2 * i + 1) (lowByte w)

/-- `for i in 0 .. n-1: MemWrite(i, 2, 0x8000)` (42_driver_control.md R173). -/
def Memory.clearWords : Nat → Memory → Memory
  | 0, m => m
  | n + 1, m => (Memory.clearWords n m).writeWord n blackWord

/-- Every listed cell lies in the `n` words of the buffer. -/
def Memory.within (n : Nat) (m : Memory) : Bool := m.all fun c => c.1 < 2 * n

/-! ### The pixel buffer -/

/-- `index < N` as unsigned numbers (30_encoding.md R72; 40_pixel_buffer.md R103). -/
def State.inBuffer (s : State) (index : Word16) : Bool := index.toNat < s.numLeds.toNat

/-- `pix[i]`, for any `i` (00_scope.md R14). -/
def State.pixel (s : State) (i : Nat) : Word16 := s.pix.readWord i

/-- `MemRead(index, 2)`: the word at an index of the buffer, none outside it (20_memory.md R56, R57). -/
def State.memRead (s : State) (index : Word16) : Option Word16 :=
  if s.inBuffer index then some (s.pixel index.toNat) else none

/-- `MemWrite(index, 2, w)` (20_memory.md R56). Its callers check the bound first (40_pixel_buffer.md R103). -/
def State.memWrite (s : State) (index : Word16) (w : Word16) : State :=
  { s with pix := s.pix.writeWord index.toNat w }

/-- Every word of the buffer set to black (42_driver_control.md R173). -/
def State.clearBuffer (s : State) : State :=
  { s with pix := Memory.clearWords s.numLeds.toNat s.pix }

/-! ### The sequencer's registers -/

/-- `emit(b)` (00_scope.md R14). -/
def State.emit (s : State) (b : Byte) : State := { s with txlog := s.txlog ++ [b] }

/-- `phase <- p` (10_state.md R22). -/
def State.setPhase (s : State) (p : Phase) : State := { s with phase := p }

/-- `phase <- p; bc <- 0; cursor <- 0`: the entry into HEADER and into DATA (10_state.md R24, R25). -/
def State.enterPhase (s : State) (p : Phase) : State := { s with phase := p, bc := 0#8, cursor := 0#16 }

/-- `tick <- (tick + 1) mod 32` (10_state.md R26). -/
def State.countTick (s : State) : State := { s with tick := s.tick + 1#5 }

/-- `bc <- (bc + 1) mod 256` (10_state.md R24). -/
def State.countByte (s : State) : State := { s with bc := s.bc + 1#8 }

/-- `cursor <- cursor + 1` (10_state.md R25). -/
def State.advanceCursor (s : State) : State := { s with cursor := s.cursor + 1#16 }

/-! ### Control and bookkeeping -/

/-- `running <- b` (10_state.md R27). -/
def State.setRunning (s : State) (b : Bool) : State := { s with running := b }

/-- `begun <- 1` (10_state.md R28). -/
def State.setBegun (s : State) : State := { s with begun := true }

/-- `end_pending <- b` (10_state.md R29). -/
def State.setEndPending (s : State) (b : Bool) : State := { s with endPending := b }

/-- `result <- v`, returned to the Foreground on `cmd_result` (10_state.md R30, R40; 00_scope.md R12). -/
def State.giveResult (s : State) (v : Word16) : State := { s with result := v, returns := s.returns ++ [v] }

/-- `rate_req <- p` (10_state.md R31). -/
def State.setRateReq (s : State) (p : Byte) : State := { s with rateReq := p }

/-- Calls to the collaborators, in order (60_exceptions.md R221, R222). -/
def State.callPorts (s : State) (cs : List Call) : State := { s with calls := s.calls ++ cs }

/-! ### Faults, the Foreground's position, the order of the steps -/

/-- The set of recorded faults with one more: a name already recorded is not recorded again (10_state.md R32; log 4). -/
def addFault (fs : List FaultRecord) (r : FaultRecord) : List FaultRecord :=
  if fs.any (fun f => f.name == r.name) then fs else fs ++ [r]

/-- `raise Fault(name)`: adds the record to `fault` and changes nothing else (60_exceptions.md R202, R208). -/
def State.raiseFault (s : State) (r : FaultRecord) : State := { s with fault := addFault s.fault r }

/-- The Foreground's command is complete: its next word is the following one of its program (10_state.md R21; log 9). -/
def State.retire (s : State) : State := { s with cmdIn := s.cmdIn.tail }

/-- One turn of the environment's order is taken (log 5). -/
def State.takeTurn (s : State) : State := { s with schedule := s.schedule.tail, turn := s.turn + 1 }

/-! ### Construction -/

/-- `construct(n)`: the only reset, refused outside 1..65535 (70_reset_and_hazards.md R230; 00_scope.md R6). -/
def construct (n : Nat) : Host.Outcome State Fault Refusal :=
  if 1 ≤ n ∧ n ≤ 65535 then .next (State.constructed (BitVec.ofNat 16 n)) else .refused (.badStrandLength n)

end Sys2Proof.Machine
end

