-- ==== Sys2Proof/Machine/Flags.lean ====
section
/-! DEFINITION. Machine/Flags.lean: the conditions the block and its agents test: the one status condition
(10_state.md R34), a frame in flight (60_exceptions.md R206), quiescence (R208), the hold of the Foreground
(00_scope.md R14; 10_state.md R40) and what each agent has enabled (20_memory.md R60). -/

namespace Sys2Proof.Machine

/-- `done = (phase = DONE)` (10_state.md R34). -/
def State.done (s : State) : Bool := s.phase == .done

/-- A frame is in flight: `phase ∈ {HEADER, DATA}` (60_exceptions.md R206). -/
def State.inFlight (s : State) : Bool := s.phase == .header || s.phase == .data

/-- `fault` is not empty: neither agent has an enabled step (60_exceptions.md R208). -/
def State.isQuiescent (s : State) : Bool := !s.fault.isEmpty

/-- The recorded fault names (10_state.md R32). -/
def State.faultNames (s : State) : List FaultName := s.fault.map FaultRecord.name

/-- The Foreground's next command is a FLUSH. -/
def State.nextIsFlush (s : State) : Bool :=
  match s.cmdIn with
  | [] => false
  | w :: _ =>
    match decodeOn .cmdIn w with
    | .ok i => i == .flush
    | .error _ => false

/-- `cmd_held` (10_state.md R40): the Foreground waits for DONE, in END's second step (42_driver_control.md R174) or in
FLUSH (R172). -/
def State.cmdHeld (s : State) : Bool := (s.endPending || s.nextIsFlush) && !s.done

/-- The Foreground has an enabled step: END's second step or a command to issue, and it is not held (00_scope.md R14;
42_driver_control.md R172, R174). -/
def State.foregroundEnabled (s : State) : Bool := (s.endPending || !s.cmdIn.isEmpty) && !s.cmdHeld

/-- The Timer agent has an enabled step: it issues TICK only while `running = 1` (10_state.md R27). -/
def State.timerEnabled (s : State) : Bool := s.running

end Sys2Proof.Machine
end

