-- ==== Sys2Proof/Machine/DriverControl.lean ====
section
/-! DEFINITION. Machine/DriverControl.lean: BEGIN, FLUSH, END and SETREFRESHRATE (42_driver_control.md R170 to R177). -/

namespace Sys2Proof.Machine

/-- The calls of BEGIN (R170; ports `ser_configure` and `tmr_start`, 10_state.md R40). -/
def beginCalls : List Call :=
  [.serialConfigure .msbFirst Config.serialClockMode Config.serialClockDivider,
    .timerInitialize Config.tickPeriodUs, .timerAttach]

/-- The calls of END's second step (R174; ports `ser_shutdown` and `tmr_stop`). -/
def endCalls : List Call := [.serialShutdown, .timerDetach, .timerStop]

/-- BEGIN (R170, R171). -/
def execBeginBlock (s : State) : Host.Outcome State Fault Refusal :=
  if s.begun then .next (s.raiseFault .beginTwice)
  else .next (((s.callPorts beginCalls).setRunning true).setBegun).retire

/-- FLUSH (R172): complete in DONE; otherwise the Foreground is held, which changes nothing: the command stays its next
one (log 7). -/
def execFlush (s : State) : Host.Outcome State Fault Refusal :=
  if s.done then .next s.retire else .next s

/-- END's first step (R173): the clear and the SHOW in one atomic step. -/
def endFirst (s : State) : Host.Outcome State Fault Refusal :=
  if s.inFlight then .next (s.raiseFault (.midFrameWrite (encode .endBlock) s.phase))
  else .next (((s.clearBuffer).setPhase .idle).setEndPending true).retire

/-- END's second step (R174): held until DONE, then the serial driver and the timer are stopped. -/
def endSecond (s : State) : Host.Outcome State Fault Refusal :=
  if s.done then .next (((s.callPorts endCalls).setRunning false).setEndPending false) else .next s

/-- END (R173, R174): the first step, or the second one while `end_pending = 1`. -/
def execEndBlock (s : State) : Host.Outcome State Fault Refusal :=
  if s.endPending then endSecond s else endFirst s

/-- SETREFRESHRATE (R176): the request is recorded and its period handed to the timer. -/
def execSetRefreshRate (pct : Byte) (s : State) : Host.Outcome State Fault Refusal :=
  .next ((s.setRateReq pct).callPorts [.timerInitialize (Config.refreshPeriod pct)]).retire

end Sys2Proof.Machine
end

