-- ==== Sys2Proof/Machine/PixelBuffer.lean ====
section
/-! DEFINITION. Machine/PixelBuffer.lean: SETCOLOR.RGB, SETCOLOR.RAW, GET and PIXELCOUNT (40_pixel_buffer.md R100 to
R107). -/

namespace Sys2Proof.Machine

/-- Both SETCOLOR forms, by R101's order of checks (R104): the bound, then the phase, then the write. `i` is the
command, recorded with a `MidFrameWrite` (60_exceptions.md R202), `w` the word to store. -/
def setColor (i : Instr) (index : Word16) (w : Word16) (s : State) : Host.Outcome State Fault Refusal :=
  if s.inBuffer index then
    if s.inFlight then .next (s.raiseFault (.midFrameWrite (encode i) s.phase))
    else .next (s.memWrite index w).retire
  else .next s.retire

/-- SETCOLOR.RGB (R101). -/
def execSetColorRgb (index : Word16) (r g b : Byte) (s : State) : Host.Outcome State Fault Refusal :=
  setColor (.setColorRgb index r g b) index (pack r g b) s

/-- SETCOLOR.RAW (R102). -/
def execSetColorRaw (index word : Word16) (s : State) : Host.Outcome State Fault Refusal :=
  setColor (.setColorRaw index word) index (markRaw word) s

/-- GET (R105, R106). -/
def execGetPixel (index : Word16) (s : State) : Host.Outcome State Fault Refusal :=
  match s.memRead index with
  | none => .next (s.raiseFault (.getOutOfRange index))
  | some w => .next (s.giveResult w).retire

/-- PIXELCOUNT (R107). -/
def execPixelCount (s : State) : Host.Outcome State Fault Refusal := .next (s.giveResult s.numLeds).retire

end Sys2Proof.Machine
end

