-- ==== Sys2Proof/Machine/Sequencer.lean ====
section
/-! DEFINITION. Machine/Sequencer.lean: TICK and SHOW, the phase sequencer, the serializer and the cursor tracker
(41_sequencer.md R130 to R143). -/

namespace Sys2Proof.Machine

/-- The IDLE arm (R132): a zero byte; when the counter, already incremented, is 0, the frame starts. -/
def tickIdle (s : State) : State :=
  let s1 := (s.countTick).emit 0x00#8
  if s1.tick = 0#5 then s1.enterPhase .header else s1

/-- The HEADER arm (R134): a zero byte; the 4th moves to DATA. -/
def tickHeader (s : State) : State :=
  let s1 := ((s.countTick).emit 0x00#8).countByte
  if s1.bc = 4#8 then s1.enterPhase .data else s1

/-- The DATA arm on a high byte (R135). -/
def tickHigh (s : State) (w : Word16) : State := ((s.countTick).emit (highByte w)).countByte

/-- The DATA arm on a low byte, with the end of data when the advanced cursor is `>= N` (R136, D8). -/
def tickLow (s : State) (w : Word16) : State :=
  let s1 := (((s.countTick).emit (lowByte w)).countByte).advanceCursor
  if s1.numLeds.toNat ≤ s1.cursor.toNat then s1.setPhase .done else s1

/-- The DATA arm (R131, R135, R136): the parity of `bc` before the step selects the byte. The read outside the buffer,
which no reachable state makes (R138), stops. -/
def tickData (s : State) : Host.Outcome State Fault Refusal :=
  match s.memRead s.cursor with
  | none => .fault .cursorOutsideBuffer
  | some w => if s.bc.getLsbD 0 then .next (tickLow s w) else .next (tickHigh s w)

/-- The DONE arm (R137): a zero byte. -/
def tickDone (s : State) : State := (s.countTick).emit 0x00#8

/-- TICK (R131). -/
def execTick (s : State) : Host.Outcome State Fault Refusal :=
  if s.running then
    match s.phase with
    | .idle => .next (tickIdle s)
    | .header => .next (tickHeader s)
    | .data => tickData s
    | .done => .next (tickDone s)
  else .next (s.raiseFault (.tickWhileStopped s.phase))

/-- SHOW (R140, R141): `phase <- IDLE` and nothing else, in every phase. -/
def execShowFrame (s : State) : Host.Outcome State Fault Refusal := .next (s.setPhase .idle).retire

end Sys2Proof.Machine
end

