-- ==== Sys2Proof/Machine/Dispatch.lean ====
section
/-! DEFINITION. Machine/Dispatch.lean: the one meaning of each event of the opcode map (30_encoding.md R71). -/

namespace Sys2Proof.Machine

def exec (i : Instr) (s : State) : Host.Outcome State Fault Refusal :=
  match i with
  | .tick => Sys2Proof.Machine.execTick s
  | .showFrame => Sys2Proof.Machine.execShowFrame s
  | .flush => Sys2Proof.Machine.execFlush s
  | .setColorRgb index r g b => Sys2Proof.Machine.execSetColorRgb index r g b s
  | .setColorRaw index word => Sys2Proof.Machine.execSetColorRaw index word s
  | .getPixel index => Sys2Proof.Machine.execGetPixel index s
  | .pixelCount => Sys2Proof.Machine.execPixelCount s
  | .beginBlock => Sys2Proof.Machine.execBeginBlock s
  | .endBlock => Sys2Proof.Machine.execEndBlock s
  | .setRefreshRate pct => Sys2Proof.Machine.execSetRefreshRate pct s

end Sys2Proof.Machine
end

