-- ==== Sys2Proof/Machine/Agents.lean ====
section
/-! DEFINITION. Machine/Agents.lean: the two agents and the interleaving of their steps (00_scope.md R11; 20_memory.md
R60; 60_exceptions.md R208, R211). -/

namespace Sys2Proof.Machine

/-- The agent that takes the next step: the one the environment's order names, else the one with an enabled step, else,
where both have one, the free choice of this turn (60_exceptions.md R211; log 5). -/
def nextAgent (s : State) : Option Agent :=
  match s.schedule with
  | a :: _ => some a
  | [] =>
    match s.timerEnabled, s.foregroundEnabled with
    | true, true => some (Config.freeAgent s.turn)
    | true, false => some .timer
    | false, true => some .foreground
    | false, false => none

/-- A step of the Timer agent: a TICK on `tick_in` (30_encoding.md R78). -/
def timerStep (s : State) : Host.Outcome State Fault Refusal := exec .tick s

/-- A command word presented on `cmd_in`: its instruction, or `IllegalCommand` (30_encoding.md R76 to R78;
60_exceptions.md R203). -/
def issueWord (w : CommandWord) (s : State) : Host.Outcome State Fault Refusal :=
  match decodeOn .cmdIn w with
  | .ok i => exec i s
  | .error _ => .next (s.raiseFault (.illegalCommand w))

/-- A step of the Foreground agent: END's second step while `end_pending = 1` (42_driver_control.md R174), else its next
command word. With no word to present it does nothing to the block (log 6). -/
def foregroundStep (s : State) : Host.Outcome State Fault Refusal :=
  if s.endPending then exec .endBlock s
  else
    match s.cmdIn with
    | [] => .next s
    | w :: _ => issueWord w s

/-- Why neither agent has an enabled step: the Foreground is held and no TICK can come (70_reset_and_hazards.md R241),
or it presents no command (60_exceptions.md R226). -/
def stuckReason (s : State) : Fault := if s.cmdHeld then .heldForever else .noEvent

/-- One step of the interleaving. A quiescent state has none (60_exceptions.md R208). -/
def agentStep (s : State) : Host.Outcome State Fault Refusal :=
  if s.isQuiescent then .fault .quiescent
  else
    match nextAgent s with
    | some .timer => timerStep s.takeTurn
    | some .foreground => foregroundStep s.takeTurn
    | none => .fault (stuckReason s)

/-- The state with the word as the next event: the TICK word as a TICK on `tick_in`, every other word as the
Foreground's next on `cmd_in`. For the step to take it, no fault is recorded and, for a command, no END is waiting
(log 10). -/
def placeWord (s : State) (w : CommandWord) : State :=
  match decodeOn .tickIn w with
  | .ok _ => { s with fault := [], schedule := .timer :: s.schedule }
  | .error _ =>
    { s with fault := [], endPending := false, schedule := .foreground :: s.schedule, cmdIn := w :: s.cmdIn }

end Sys2Proof.Machine
end

