-- ==== Sys2Proof/Machine/Step.lean ====
section
/-! DEFINITION. Machine/Step.lean: the step function, and the placing of one instruction where it reads its next event. -/

namespace Sys2Proof.Machine

/-- One step of the block: one TICK, one Foreground command, or one of END's two steps (20_memory.md R60). -/
def step (s : State) : Host.Outcome State Fault Refusal := agentStep s

/-- `s` with the instruction whose bits are `w` (numbered as the opcode table numbers them, bits above `nbits` 0) as its
next event (log 10). -/
def State.withFetchWord (s : State) (nbits w : Nat) : State := placeWord s (BitVec.ofNat 64 (w % 2 ^ nbits))

end Sys2Proof.Machine
end

