-- ==== Sys2Proof/Machine/Assembler.lean ====
section
/-! DEFINITION. Machine/Assembler.lean: the assembler of 30_encoding.md R84 and R85: one line of text to one command
word, refused where an operand is outside its range. -/

namespace Sys2Proof.Machine

/-- The instruction of a line; the operands are in range where the line is well formed. `LENGTH` is `PIXELCOUNT` (R85). -/
def asmInstr : AsmLine → Instr
  | .tick => .tick
  | .showFrame => .showFrame
  | .flush => .flush
  | .setColorRgb index r g b => .setColorRgb (BitVec.ofNat 16 index) (BitVec.ofNat 8 r) (BitVec.ofNat 8 g) (BitVec.ofNat 8 b)
  | .setColorRaw index word => .setColorRaw (BitVec.ofNat 16 index) (BitVec.ofNat 16 word)
  | .getPixel index => .getPixel (BitVec.ofNat 16 index)
  | .pixelCount => .pixelCount
  | .length => .pixelCount
  | .beginBlock => .beginBlock
  | .endBlock => .endBlock
  | .setRefreshRate pct => .setRefreshRate (BitVec.ofNat 8 pct)

/-- The command word of a line, none where an operand is outside its range (R84). -/
def assemble (l : AsmLine) : Option CommandWord := if l.wellFormed then some (encode (asmInstr l)) else none

/-! ### Reading a line of text (log 14) -/

/-- A decimal digit. -/
def decimalDigit (c : Char) : Option Nat := if '0' ≤ c ∧ c ≤ '9' then some (c.toNat - 48) else none

/-- A hexadecimal digit. -/
def hexDigit (c : Char) : Option Nat :=
  if '0' ≤ c ∧ c ≤ '9' then some (c.toNat - 48)
  else if 'a' ≤ c ∧ c ≤ 'f' then some (c.toNat - 87)
  else if 'A' ≤ c ∧ c ≤ 'F' then some (c.toNat - 55)
  else none

/-- The number whose digits are the rest of a text, after the digits already read. -/
def readDigits (digit : Char → Option Nat) (base : Nat) : Nat → List Char → Option Nat
  | n, [] => some n
  | n, c :: cs =>
    match digit c with
    | some d => readDigits digit base (n * base + d) cs
    | none => none

/-- A number: decimal, or hexadecimal after `0x` (R84). -/
def readNumber : List Char → Option Nat
  | [] => none
  | '0' :: 'x' :: c :: cs => readDigits hexDigit 16 0 (c :: cs)
  | c :: cs => readDigits decimalDigit 10 0 (c :: cs)

/-- A blank between the parts of a line. -/
def isBlank (c : Char) : Bool := c == ' ' || c == '\t'

/-- A text without the blanks at its two ends. -/
def trimBlanks (cs : List Char) : List Char := ((cs.dropWhile isBlank).reverse.dropWhile isBlank).reverse

/-- The parts between the commas. -/
def splitCommas : List Char → List (List Char)
  | [] => [[]]
  | c :: cs =>
    if c = ',' then [] :: splitCommas cs
    else
      match splitCommas cs with
      | [] => [[c]]
      | part :: parts => (c :: part) :: parts

/-- The numbers of an operand text, separated by commas (R84). -/
def readOperands (cs : List Char) : Option (List Nat) :=
  if trimBlanks cs = [] then some [] else (splitCommas cs).mapM fun part => readNumber (trimBlanks part)

/-- A line from its mnemonic and its operands (R84). -/
def lineOf (mnemonic : List Char) (operands : List Nat) : Option AsmLine :=
  match operands with
  | [] =>
    if mnemonic = ['T', 'I', 'C', 'K'] then some .tick
    else if mnemonic = ['S', 'H', 'O', 'W'] then some .showFrame
    else if mnemonic = ['F', 'L', 'U', 'S', 'H'] then some .flush
    else if mnemonic = ['P', 'I', 'X', 'E', 'L', 'C', 'O', 'U', 'N', 'T'] then some .pixelCount
    else if mnemonic = ['L', 'E', 'N', 'G', 'T', 'H'] then some .length
    else if mnemonic = ['B', 'E', 'G', 'I', 'N'] then some .beginBlock
    else if mnemonic = ['E', 'N', 'D'] then some .endBlock
    else none
  | [x] =>
    if mnemonic = ['G', 'E', 'T'] then some (.getPixel x)
    else if mnemonic = ['S', 'E', 'T', 'R', 'E', 'F', 'R', 'E', 'S', 'H', 'R', 'A', 'T', 'E'] then some (.setRefreshRate x)
    else none
  | [index, word] =>
    if mnemonic = ['S', 'E', 'T', 'C', 'O', 'L', 'O', 'R', '.', 'R', 'A', 'W'] then some (.setColorRaw index word) else none
  | [index, r, g, b] =>
    if mnemonic = ['S', 'E', 'T', 'C', 'O', 'L', 'O', 'R', '.', 'R', 'G', 'B'] then some (.setColorRgb index r g b)
    else none
  | _ => none

/-- A line of text: what follows a `;` is a comment, the first word is the mnemonic, the rest its operands (R84). -/
def readLine (text : List Char) : Option AsmLine :=
  let code := trimBlanks (text.takeWhile (· != ';'))
  match readOperands (code.dropWhile fun c => !isBlank c) with
  | some operands => lineOf (code.takeWhile fun c => !isBlank c) operands
  | none => none

/-- The command word of a line of text (R84). -/
def assembleText (text : List Char) : Option CommandWord :=
  match readLine text with
  | some l => assemble l
  | none => none

end Sys2Proof.Machine
end

