-- ==== Sys2Proof/Machine/Ports.lean ====
section
/-! DEFINITION. Machine/Ports.lean: the output ports of 10_state.md R40 at one step, and the timer's period. -/

namespace Sys2Proof.Machine

/-- The output ports (10_state.md R40). `tx_byte` with its strobe is `txByte`: a byte in a step that strobes, none in
one that does not; `tmrPeriod` likewise. -/
structure Outputs where
  cmdResult : Word16
  cmdHeld : Bool
  txByte : Option Byte
  serConfigure : Bool
  serShutdown : Bool
  tmrStart : Bool
  tmrPeriod : Option Nat
  tmrStop : Bool
  deriving DecidableEq, Repr

/-- The call is `serial.configure`. -/
def Call.isConfigure : Call → Bool
  | .serialConfigure _ _ _ => true
  | .serialShutdown => false
  | .timerInitialize _ => false
  | .timerAttach => false
  | .timerDetach => false
  | .timerStop => false

/-- The period a call hands to `initialize`. -/
def Call.period : Call → Option Nat
  | .serialConfigure _ _ _ => none
  | .serialShutdown => none
  | .timerInitialize p => some p
  | .timerAttach => none
  | .timerDetach => none
  | .timerStop => none

/-- The ports at a step from `s` to `t`: what the step added to the logs, and the levels after it. -/
def Outputs.of (s t : State) : Outputs :=
  let added := t.calls.drop s.calls.length
  { cmdResult := t.result
    cmdHeld := t.cmdHeld
    txByte := (t.txlog.drop s.txlog.length).head?
    serConfigure := added.any Call.isConfigure
    serShutdown := added.contains .serialShutdown
    tmrStart := added.contains .timerAttach
    tmrPeriod := added.findSome? Call.period
    tmrStop := added.contains .timerStop }

/-- The period last handed to the timer; before any call it is `TICK_PERIOD_US` (10_state.md R31). -/
def State.timerPeriod (s : State) : Nat := (s.calls.reverse.findSome? Call.period).getD Config.tickPeriodUs

/-- The observation of a run that ends in a state (00_scope.md R12): the bytes emitted, the values returned to the
Foreground, and the state itself. -/
structure Observation where
  txlog : List Byte
  returns : List Word16
  final : State
  deriving DecidableEq, Repr

/-- The observation of the run that ends in `s` (00_scope.md R12). -/
def State.observation (s : State) : Observation := ⟨s.txlog, s.returns, s⟩

end Sys2Proof.Machine
end

