-- ==== Sys2Proof/Safety.lean ====
section
/-! DEFINITION. Safety.lean: the terms the statements use: what is unchanged between two states, the invariants of
10_state.md R36, the states a run reaches, and runs of TICKs. -/

namespace Sys2Proof.Machine

/-! ### What is unchanged -/

/-- The sequencer's registers are unchanged. -/
def SameSequencer (s t : State) : Prop :=
  t.phase = s.phase ∧ t.bc = s.bc ∧ t.cursor = s.cursor ∧ t.tick = s.tick

/-- The control bits are unchanged. -/
def SameControl (s t : State) : Prop :=
  t.running = s.running ∧ t.begun = s.begun ∧ t.endPending = s.endPending

/-- The values the Foreground reads or requests are unchanged. -/
def SameValues (s t : State) : Prop :=
  t.result = s.result ∧ t.rateReq = s.rateReq ∧ t.returns = s.returns

/-- Nothing left the block: no byte and no call. -/
def SameOutputs (s t : State) : Prop := t.txlog = s.txlog ∧ t.calls = s.calls

/-- The strand length and every byte of the pixel buffer are unchanged. -/
def SameBuffer (s t : State) : Prop :=
  t.numLeds = s.numLeds ∧ ∀ a, t.pix.readByte a = s.pix.readByte a

/-- The strand length is unchanged, and every byte of the buffer outside word `i`. -/
def SameBufferBut (i : Nat) (s t : State) : Prop :=
  t.numLeds = s.numLeds ∧ ∀ a, a ≠ 2 * i → a ≠ 2 * i + 1 → t.pix.readByte a = s.pix.readByte a

/-- Every field the spec gives the block is unchanged but, perhaps, `fault`; the Foreground's position (`cmdIn`) and the
model's own `schedule` and `turn` are not the block's. -/
def SameBlock (s t : State) : Prop :=
  SameSequencer s t ∧ SameControl s t ∧ SameValues s t ∧ SameOutputs s t ∧ SameBuffer s t

/-! ### Invariants -/

/-- (a) of 10_state.md R36: every pixel word has its marker bit. -/
def MarkersSet (s : State) : Prop := ∀ i, i < s.numLeds.toNat → markerOf (s.pixel i) = true

/-- The invariants (a) to (e) of 10_state.md R36. -/
def SpecInv (s : State) : Prop :=
  MarkersSet s ∧ s.cursor.toNat ≤ s.numLeds.toNat ∧ (s.phase = .data → s.cursor.toNat < s.numLeds.toNat) ∧
    (s.phase = .header ∨ s.phase = .data → s.running = true) ∧ (s.running = true → s.begun = true)

/-- The storage of the buffer is canonical and lies inside the buffer of at least one word. -/
def BufferInv (s : State) : Prop :=
  s.numLeds ≠ 0 ∧ s.pix.wf = true ∧ s.pix.within s.numLeds.toNat = true

/-- What `bc` counts: in HEADER the header bytes sent, fewer than 4; in DATA two bytes for each pixel before the cursor
and one more after a high byte, mod 256 (10_state.md R24; 41_sequencer.md R134, R135). -/
def CountInv (s : State) : Prop :=
  (s.phase = .header → s.bc.toNat < 4) ∧
    (s.phase = .data → s.bc.toNat = (2 * s.cursor.toNat + s.bc.toNat % 2) % 256)

/-- `result` is the last value returned (10_state.md R30), and at most one fault is recorded (60_exceptions.md R208). -/
def RecordInv (s : State) : Prop := s.result = s.returns.getLastD 0 ∧ s.fault.length ≤ 1

/-- The invariant every step keeps. -/
def BlockInv (s : State) : Prop := BufferInv s ∧ SpecInv s ∧ CountInv s ∧ RecordInv s

/-- `tick` is the number of TICKs since reset mod 32, each of which emitted one byte (41_sequencer.md R142). -/
def TickGrid (s : State) : Prop := s.tick.toNat = s.txlog.length % 32

/-- The states a run reaches: from a construction with any program loaded and any order of the agents' steps. -/
inductive Reachable : State → Prop where
  | start (n : Nat) (s : State) (program : List CommandWord) (order : List Agent) (h : construct n = .next s) :
      Reachable { s with cmdIn := program, schedule := order }
  | step (s t : State) (h : Reachable s) (hs : step s = .next t) : Reachable t

/-- The Foreground waits for DONE in END's second step or in FLUSH, the timer is stopped, and DONE is not there
(70_reset_and_hazards.md R241). -/
def HeldStopped (s : State) : Prop :=
  s.running = false ∧ s.phase ≠ .done ∧
    (s.endPending = true ∨ ∃ rest, s.cmdIn = encode .flush :: rest)

/-! ### Runs of events -/

/-- The events one after another, each by its meaning, stopping where one stops (20_memory.md R60: a total order of
atomic steps). -/
def runEvents : List Instr → State → Host.Outcome State Fault Refusal
  | [], s => .next s
  | i :: is, s =>
    match exec i s with
    | .next t => runEvents is t
    | .fault r => .fault r
    | .refused r => .refused r

/-- `k` TICKs with no Foreground step between them. -/
def runTicks (k : Nat) (s : State) : Host.Outcome State Fault Refusal := runEvents (List.replicate k .tick) s

/-- `k` zero bytes. -/
def zeros (k : Nat) : List Byte := List.replicate k 0x00

/-- The data bytes of a frame: every pixel's high byte, then its low byte, in cursor order (41_sequencer.md R139). -/
def frameBytes (s : State) : List Byte := (List.range s.numLeds.toNat).flatMap fun i => wordBytes (s.pixel i)

end Sys2Proof.Machine
end

