-- ==== Sys2Proof/Certificates/Slice0/Obligations.lean ====
section
/-! DEFINITION. Certificates/Slice0/Obligations.lean: the statements for the provers, from the numbered rules of the
spec. -/

open Sys2Proof Sys2Proof.Machine

/-! ### Encodings (30_encoding.md) -/

/-- R70 to R77, R86: decoding the word of an instruction gives the instruction back, for all ten and every operand. -/
def Obligations.DecodeEncodeRoundTrip : Prop :=
  ∀ i : Instr, decode (encode i) = .ok i

/-- R76, R77: a word decodes exactly when a row of `opcode_table.json` covers it, and at most one row does. -/
def Obligations.DecoderAgreesWithOpcodeTable : Prop :=
  ∀ w : CommandWord,
    ((∃ i, decode w = .ok i) ↔ ∃ r ∈ opcodeTable, r.covers w = true) ∧
      ∀ r ∈ opcodeTable, ∀ r' ∈ opcodeTable, r.covers w = true → r'.covers w = true → r = r'

/-- R77: the decoder is total: a word that decodes is the word of its instruction, so no reserved bit is ignored, and every
other word spells nothing; a word with a reserved `op` spells no command, whatever its other bits. -/
def Obligations.ReservedOpcodesSpellNothing : Prop :=
  (∀ w : CommandWord, (∃ i, decode w = .ok i ∧ encode i = w) ∨ (∃ e, decode w = .error e ∧ ∀ i, encode i ≠ w)) ∧
    ∀ w : CommandWord,
      (fieldsOf w).op ∉ [0x01#8, 0x10#8, 0x11#8, 0x20#8, 0x21#8, 0x22#8, 0x23#8, 0x30#8, 0x31#8, 0x32#8] →
        decode w = .error (.reservedOpcode (fieldsOf w).op)

/-- 95_test_vectors.md 2.1 and R86: words written out from the spec decode as it says. -/
def Obligations.SpecWordsDecode : Prop :=
  decode 0x0100000000000000 = .ok .tick ∧ decode 0x1000000000000000 = .ok .showFrame ∧
    decode 0x1100000000000000 = .ok .flush ∧ decode 0x20000002001F0005 = .ok (.setColorRgb 2 31 0 5) ∧
    decode 0x2100000100001234 = .ok (.setColorRaw 1 0x1234) ∧ decode 0x2200000500000000 = .ok (.getPixel 5) ∧
    decode 0x2300000000000000 = .ok .pixelCount ∧ decode 0x3000000000000000 = .ok .beginBlock ∧
    decode 0x3100000000000000 = .ok .endBlock ∧ decode 0x3200000000000064 = .ok (.setRefreshRate 100) ∧
    decode 0x1000000000000001 = .error (.reservedBits 0x10) ∧ decode 0xFF00000000000000 = .error (.reservedOpcode 0xFF)

/-- R79, R81: unpacking a word reads red in bits 4:0, blue in 9:5, green in 14:10 and the marker in bit 15; unpacking
`pack(r, g, b)` gives each channel mod 32 and marker 1. -/
def Obligations.UnpackOfPackIsMaskedColour : Prop :=
  (∀ w : Word16, (redOf w).toNat = w.toNat % 32 ∧ (blueOf w).toNat = w.toNat / 32 % 32 ∧
      (greenOf w).toNat = w.toNat / 1024 % 32 ∧ (markerOf w = true ↔ 32768 ≤ w.toNat)) ∧
    ∀ r g b : Byte, (redOf (pack r g b)).toNat = r.toNat % 32 ∧ (greenOf (pack r g b)).toNat = g.toNat % 32 ∧
      (blueOf (pack r g b)).toNat = b.toNat % 32 ∧ markerOf (pack r g b) = true

/-- R53, R54: the wire bits of a pixel word's two bytes are its bits from bit 15 down to bit 0. The order inside a byte
is the spec's general knowledge (log 15). -/
def Obligations.WireSendsBitFifteenFirst : Prop :=
  ∀ (w : Word16) (k : Nat), k < 16 → (wireBits (wordBytes w))[k]? = some (w.getLsbD (15 - k))

/-- R84, R85, R86: the assembler gives R86's word for every form, where the form has operands only if each is in range and
nothing otherwise; LENGTH gives PIXELCOUNT's word. -/
def Obligations.AssemblerRefusesOutOfRange : Prop :=
  (∀ index r g b : Nat, assemble (.setColorRgb index r g b) =
      if index ≤ 65535 ∧ r ≤ 255 ∧ g ≤ 255 ∧ b ≤ 255 then
        some (BitVec.ofNat 64 (0x20 * 2 ^ 56 + index * 2 ^ 32 + r * 2 ^ 16 + g * 2 ^ 8 + b)) else none) ∧
    (∀ index word : Nat, assemble (.setColorRaw index word) =
      if index ≤ 65535 ∧ word ≤ 65535 then
        some (BitVec.ofNat 64 (0x21 * 2 ^ 56 + index * 2 ^ 32 + word)) else none) ∧
    (∀ index : Nat, assemble (.getPixel index) =
      if index ≤ 65535 then some (BitVec.ofNat 64 (0x22 * 2 ^ 56 + index * 2 ^ 32)) else none) ∧
    (∀ pct : Nat, assemble (.setRefreshRate pct) =
      if pct ≤ 255 then some (BitVec.ofNat 64 (0x32 * 2 ^ 56 + pct)) else none) ∧
    assemble .tick = some 0x0100000000000000 ∧ assemble .showFrame = some 0x1000000000000000 ∧
    assemble .flush = some 0x1100000000000000 ∧ assemble .pixelCount = some 0x2300000000000000 ∧
    assemble .length = some 0x2300000000000000 ∧ assemble .beginBlock = some 0x3000000000000000 ∧
    assemble .endBlock = some 0x3100000000000000

/-! ### Reset (70_reset_and_hazards.md) -/

/-- R230, R231: what a construction leaves in every field, for every N it accepts, and that it refuses every other N. -/
def Obligations.ConstructionGivesResetValues : Prop :=
  (∀ n : Nat, 1 ≤ n → n ≤ 65535 → ∃ s, construct n = .next s ∧ s.numLeds.toNat = n ∧
      (∀ i, i < n → s.pixel i = 0x8000) ∧ s.phase = .idle ∧ s.bc = 0 ∧ s.cursor = 0 ∧ s.tick = 0 ∧
      s.running = false ∧ s.begun = false ∧ s.endPending = false ∧ s.result = 0 ∧ s.rateReq = 0 ∧ s.fault = [] ∧
      s.txlog = []) ∧
    ∀ n : Nat, ¬(1 ≤ n ∧ n ≤ 65535) → construct n = .refused (.badStrandLength n)

/-- The invariants hold after every construction, and at `State.reset`, the construction with N = 3, which is the
model's choice (log 1). -/
def Obligations.InvHoldsAfterConstruction : Prop :=
  (∀ (n : Nat) (s : State), construct n = .next s → BlockInv s ∧ TickGrid s) ∧
    construct 3 = .next State.reset ∧ BlockInv State.reset ∧ TickGrid State.reset

/-! ### The step and the agents (20_memory.md, 60_exceptions.md) -/

/-- R60, R77: when the Foreground moves and its word decodes to a command of `cmd_in`, the step is that instruction's
meaning on the state with the turn taken: only the model's own `schedule` and `turn` (log 5) differ. -/
def Obligations.StepRunsDecodedCommand : Prop :=
  ∀ (s : State) (w : CommandWord) (rest : List CommandWord) (i : Instr),
    s.fault = [] → s.endPending = false → nextAgent s = some .foreground → s.cmdIn = w :: rest →
      decode w = .ok i → i.wellFormedOn .cmdIn = true →
        step s = exec i { s with schedule := s.schedule.tail, turn := s.turn + 1 }

/-- R60, R78, R174: when the Timer moves the step is TICK; when the Foreground moves with `end_pending = 1` it is END;
when it moves with no command the block is unchanged (log 6). -/
def Obligations.StepRunsTimerAndWaitingEnd : Prop :=
  ∀ s : State, s.fault = [] →
    (nextAgent s = some .timer → step s = exec .tick { s with schedule := s.schedule.tail, turn := s.turn + 1 }) ∧
    (nextAgent s = some .foreground → s.endPending = true →
      step s = exec .endBlock { s with schedule := s.schedule.tail, turn := s.turn + 1 }) ∧
    (nextAgent s = some .foreground → s.endPending = false → s.cmdIn = [] →
      step s = .next { s with schedule := s.schedule.tail, turn := s.turn + 1 })

/-- R203: a word that spells no command, or the TICK word, from the Foreground raises `IllegalCommand` with the word, and
nothing else changes. -/
def Obligations.IllegalWordsRaiseIllegalCommand : Prop :=
  ∀ (s : State) (w : CommandWord) (rest : List CommandWord),
    s.fault = [] → s.endPending = false → nextAgent s = some .foreground → s.cmdIn = w :: rest →
      (∀ i, i ≠ .tick → encode i ≠ w) →
        ∃ t, step s = .next t ∧ t.fault = [.illegalCommand w] ∧ SameBlock s t

/-- R78, R204: the TICK word is 0x0100000000000000, the Foreground's port never gives it, its TICK word is
`IllegalCommand`, and a TICK of the Timer while `running = 0` raises `TickWhileStopped`. -/
def Obligations.TickComesOnlyFromTheTimer : Prop :=
  encode .tick = 0x0100000000000000 ∧ (∀ w, decodeOn .cmdIn w ≠ .ok .tick) ∧
    (∀ w i, decodeOn .tickIn w = .ok i → i = .tick) ∧
    (∀ s : State, s.fault = [] → nextAgent s = some .timer → s.running = false →
      ∃ t, step s = .next t ∧ t.fault = [.tickWhileStopped s.phase] ∧ SameBlock s t) ∧
    ∀ (s : State) (rest : List CommandWord), s.fault = [] → s.endPending = false →
      nextAgent s = some .foreground → s.cmdIn = 0x0100000000000000 :: rest →
        ∃ t, step s = .next t ∧ t.fault = [.illegalCommand 0x0100000000000000] ∧ SameBlock s t

/-- R208: a step that records a fault changes nothing else, faults are never cleared, and with a fault recorded there is
no step. -/
def Obligations.FaultsAreStickyAndQuiescent : Prop :=
  (∀ s : State, s.fault ≠ [] → step s = .fault .quiescent) ∧
    ∀ s t : State, step s = .next t → s.fault <+: t.fault ∧
      (t.fault ≠ s.fault → (∃ r, t.fault = s.fault ++ [r]) ∧ SameBlock s t)

/-- R60, R211: with no order fixed, only an agent with an enabled step moves, one moves where one can, and where both can
the choice is free; any order the environment fixes is taken. The form of the choice is the model's (log 5). -/
def Obligations.OnlyEnabledAgentsMove : Prop :=
  (∀ s : State, s.schedule = [] →
      (nextAgent s = some .timer → s.running = true) ∧
      (nextAgent s = some .foreground → s.foregroundEnabled = true) ∧
      (s.running = true → s.foregroundEnabled = true → nextAgent s = some (Config.freeAgent s.turn)) ∧
      (nextAgent s = none → s.running = false ∧ s.foregroundEnabled = false)) ∧
    ∀ (s : State) (a : Agent), nextAgent { s with schedule := a :: s.schedule } = some a

/-- R208, R226, R241: a state of the invariant has a next step unless a fault is recorded, or nothing is scheduled, the
timer is stopped and the Foreground has no enabled step; then it stops by the name that says which (log 7). -/
def Obligations.StepsExistUnlessStuck : Prop :=
  ∀ s : State, BlockInv s →
    (∃ t, step s = .next t) ∨ (s.fault ≠ [] ∧ step s = .fault .quiescent) ∨
      (s.fault = [] ∧ s.schedule = [] ∧ s.running = false ∧ s.foregroundEnabled = false ∧
        step s = .fault (if s.cmdHeld then .heldForever else .noEvent))

/-- R241: a FLUSH, or END's second step, with `running = 0` and `phase != DONE` is stuck: every step that records no
fault leaves the block so, and with nothing scheduled there is no step. -/
def Obligations.WaitWithoutTimerIsStuck : Prop :=
  (∀ s t : State, HeldStopped s → step s = .next t → t.fault = [] → HeldStopped t ∧ SameBlock s t) ∧
    ∀ s : State, HeldStopped s → s.fault = [] → s.schedule = [] → step s = .fault .heldForever

/-- R175: while a held Foreground waits and the timer runs, the step is a TICK where nothing else is scheduled. -/
def Obligations.HeldForegroundLetsTicksRun : Prop :=
  ∀ s : State, s.fault = [] → s.schedule = [] → s.running = true → s.cmdHeld = true →
    step s = exec .tick { s with turn := s.turn + 1 }

/-! ### Invariants (10_state.md) -/

/-- R36: every step keeps the invariant: the buffer's storage canonical and inside N >= 1 words (log 2), R36's (a) to (e),
what `bc` counts, `result` the last value returned, and at most one fault. -/
def Obligations.StepKeepsInv : Prop :=
  ∀ s t : State, BlockInv s → step s = .next t → BlockInv t

/-- R36: every reachable state with no fault satisfies (a) to (e), and `end_pending = 1` with `running = 0` is
reachable. -/
def Obligations.ReachableStatesSatisfySpecInv : Prop :=
  (∀ s : State, Reachable s → s.fault = [] →
      (∀ i, i < s.numLeds.toNat → (s.pixel i).getLsbD 15 = true) ∧ s.cursor.toNat ≤ s.numLeds.toNat ∧
        (s.phase = .data → s.cursor.toNat < s.numLeds.toNat) ∧
        (s.phase = .header ∨ s.phase = .data → s.running = true) ∧ (s.running = true → s.begun = true)) ∧
    ∃ s : State, Reachable s ∧ s.fault = [] ∧ s.endPending = true ∧ s.running = false

/-- R142: `tick` is the number of emitted bytes, one for each TICK, mod 32, and a step enters HEADER only from IDLE and
only on a TICK whose number is a multiple of 32. -/
def Obligations.FrameStartsOnGridOfThirtyTwo : Prop :=
  (∀ s t : State, TickGrid s → step s = .next t → TickGrid t) ∧
    ∀ s t : State, TickGrid s → step s = .next t → s.phase ≠ .header → t.phase = .header →
      s.phase = .idle ∧ t.txlog.length = s.txlog.length + 1 ∧ t.txlog.length % 32 = 0

/-- R138: in a state of the invariant every instruction answers a next state: no read leaves the buffer. -/
def Obligations.ExecAnswersUnderInv : Prop :=
  ∀ (i : Instr) (s : State), BlockInv s → ∃ t, exec i s = .next t

/-- R37: which instruction may write which piece of state: `phase` TICK, SHOW and END; `bc`, `cursor`, `tick` and `txlog`
TICK; `running` BEGIN and END; `begun` BEGIN; `end_pending` END; `result` GET and PIXELCOUNT; `rate_req` SETREFRESHRATE;
the buffer SETCOLOR and END; N none. -/
def Obligations.WritersOfEachField : Prop :=
  ∀ (i : Instr) (s t : State), exec i s = .next t →
    (t.phase ≠ s.phase → i = .tick ∨ i = .showFrame ∨ i = .endBlock) ∧
    (t.bc ≠ s.bc ∨ t.cursor ≠ s.cursor ∨ t.tick ≠ s.tick ∨ t.txlog ≠ s.txlog → i = .tick) ∧
    (t.running ≠ s.running → i = .beginBlock ∨ i = .endBlock) ∧ (t.begun ≠ s.begun → i = .beginBlock) ∧
    (t.endPending ≠ s.endPending → i = .endBlock) ∧
    (t.result ≠ s.result ∨ t.returns ≠ s.returns → i = .pixelCount ∨ ∃ index, i = .getPixel index) ∧
    (t.rateReq ≠ s.rateReq → ∃ pct, i = .setRefreshRate pct) ∧
    (t.calls ≠ s.calls → i = .beginBlock ∨ i = .endBlock ∨ ∃ pct, i = .setRefreshRate pct) ∧
    (t.pix ≠ s.pix → i = .endBlock ∨ (∃ index r g b, i = .setColorRgb index r g b) ∨
      ∃ index word, i = .setColorRaw index word) ∧
    t.numLeds = s.numLeds

/-- The Foreground's position (log 9): a command that completes moves on by one word; a fault, a hold and END's second
step leave it; and no meaning touches the model's own order of the steps. -/
def Obligations.CompletedCommandsMoveOn : Prop :=
  ∀ (i : Instr) (s t : State), exec i s = .next t →
    t.schedule = s.schedule ∧ t.turn = s.turn ∧ (i = .tick → t.cmdIn = s.cmdIn) ∧
      (t.fault ≠ s.fault → t.cmdIn = s.cmdIn) ∧
      (i = .flush → s.phase ≠ .done → t = s) ∧ (i = .endBlock → s.endPending = true → t.cmdIn = s.cmdIn) ∧
      (t.cmdIn = s.cmdIn.tail ∨ t.cmdIn = s.cmdIn) ∧
      (i ≠ .tick → s.endPending = false → t.fault = s.fault → t.cmdIn ≠ s.cmdIn.tail →
        (i = .flush ∧ s.phase ≠ .done ∧ t = s) ∨ s.fault ≠ [])

/-! ### The pixel buffer (40_pixel_buffer.md) -/

/-- R80, R101: SETCOLOR.RGB in range and outside a frame stores the marker with the three channels masked to 5 bits, and
changes nothing else. -/
def Obligations.SetColorRgbStoresPackedWord : Prop :=
  ∀ (s : State) (index : Word16) (r g b : Byte), s.pix.wf = true → index.toNat < s.numLeds.toNat →
    s.phase = .idle ∨ s.phase = .done →
      ∃ t, exec (.setColorRgb index r g b) s = .next t ∧
        t.pixel index.toNat =
          BitVec.ofNat 16 (32768 + g.toNat % 32 * 1024 + b.toNat % 32 * 32 + r.toNat % 32) ∧
        SameBufferBut index.toNat s t ∧ SameSequencer s t ∧ SameControl s t ∧ SameValues s t ∧ SameOutputs s t ∧
        t.fault = s.fault

/-- R102: SETCOLOR.RAW in range and outside a frame stores the word with bit 15 set, and changes nothing else. -/
def Obligations.SetColorRawStoresMarkedWord : Prop :=
  ∀ (s : State) (index word : Word16), s.pix.wf = true → index.toNat < s.numLeds.toNat →
    s.phase = .idle ∨ s.phase = .done →
      ∃ t, exec (.setColorRaw index word) s = .next t ∧
        t.pixel index.toNat = BitVec.ofNat 16 (32768 + word.toNat % 32768) ∧
        SameBufferBut index.toNat s t ∧ SameSequencer s t ∧ SameControl s t ∧ SameValues s t ∧ SameOutputs s t ∧
        t.fault = s.fault

/-- R104: the bound is checked first, so an index outside the buffer is ignored in every phase; then the phase. -/
def Obligations.BoundIsCheckedBeforePhase : Prop :=
  ∀ (s : State) (index : Word16) (i : Instr),
    (∃ r g b, i = .setColorRgb index r g b) ∨ (∃ word, i = .setColorRaw index word) →
      (s.numLeds.toNat ≤ index.toNat → ∃ t, exec i s = .next t ∧ SameBlock s t ∧ t.fault = s.fault) ∧
      (index.toNat < s.numLeds.toNat → s.phase = .header ∨ s.phase = .data → s.fault = [] →
        ∃ t, exec i s = .next t ∧ SameBlock s t ∧ t.fault = [.midFrameWrite (encode i) s.phase])

/-- R206: `MidFrameWrite` is raised by a write in HEADER or DATA, SETCOLOR in range or END's first step, and never in IDLE
or DONE. -/
def Obligations.WritesInFlightRaiseMidFrameWrite : Prop :=
  ∀ (s : State) (i : Instr), s.fault = [] →
    ((∃ index r g b, i = .setColorRgb index r g b ∧ index.toNat < s.numLeds.toNat) ∨
      (∃ index word, i = .setColorRaw index word ∧ index.toNat < s.numLeds.toNat) ∨
      (i = .endBlock ∧ s.endPending = false)) →
    (s.phase = .header ∨ s.phase = .data →
      ∃ t, exec i s = .next t ∧ t.fault = [.midFrameWrite (encode i) s.phase] ∧ SameBlock s t) ∧
    (s.phase = .idle ∨ s.phase = .done → ∃ t, exec i s = .next t ∧ t.fault = [])

/-- R103: no SETCOLOR writes a byte outside the buffer. -/
def Obligations.SetColorStaysInsideBuffer : Prop :=
  ∀ (s t : State) (index : Word16) (i : Instr),
    (∃ r g b, i = .setColorRgb index r g b) ∨ (∃ word, i = .setColorRaw index word) → exec i s = .next t →
      t.numLeds = s.numLeds ∧ ∀ a, 2 * s.numLeds.toNat ≤ a → t.pix.readByte a = s.pix.readByte a

/-- R105: GET in range returns the stored word in every phase and changes nothing else; the word has its marker where the
buffer's words have. -/
def Obligations.GetReturnsStoredWord : Prop :=
  ∀ (s : State) (index : Word16), index.toNat < s.numLeds.toNat →
    ∃ t, exec (.getPixel index) s = .next t ∧ t.result = s.pix.readWord index.toNat ∧
      t.returns = s.returns ++ [s.pix.readWord index.toNat] ∧ (MarkersSet s → t.result.getLsbD 15 = true) ∧
      t.rateReq = s.rateReq ∧ SameSequencer s t ∧ SameControl s t ∧ SameOutputs s t ∧ SameBuffer s t ∧
      t.fault = s.fault

/-- R207: GET outside the buffer raises `GetOutOfRange` and gives no value. -/
def Obligations.GetOutsideBufferFaults : Prop :=
  ∀ (s : State) (index : Word16), s.numLeds.toNat ≤ index.toNat → s.fault = [] →
    ∃ t, exec (.getPixel index) s = .next t ∧ t.fault = [.getOutOfRange index] ∧ SameBlock s t

/-- R107: PIXELCOUNT returns N in every phase, and no step changes N. -/
def Obligations.PixelCountReturnsStrandLength : Prop :=
  (∀ s : State, ∃ t, exec .pixelCount s = .next t ∧ t.result.toNat = s.numLeds.toNat ∧
      t.returns = s.returns ++ [s.numLeds] ∧ t.rateReq = s.rateReq ∧ SameSequencer s t ∧ SameControl s t ∧
      SameOutputs s t ∧ SameBuffer s t ∧ t.fault = s.fault) ∧
    ∀ s t : State, step s = .next t → t.numLeds = s.numLeds

/-- R65: no step changes the buffer while a frame is in flight. -/
def Obligations.BufferIsStableInFlight : Prop :=
  ∀ s t : State, step s = .next t → s.phase = .header ∨ s.phase = .data → SameBuffer s t

/-! ### The sequencer (41_sequencer.md) -/

/-- R132: TICK in IDLE emits 0x00 and enters HEADER, with `bc` and `cursor` 0, exactly when the incremented counter is
0. -/
def Obligations.TickInIdle : Prop :=
  ∀ s : State, s.running = true → s.phase = .idle →
    ∃ t, exec .tick s = .next t ∧ t.txlog = s.txlog ++ [0x00] ∧ t.tick.toNat = (s.tick.toNat + 1) % 32 ∧
      (s.tick.toNat = 31 → t.phase = .header ∧ t.bc = 0 ∧ t.cursor = 0) ∧
      (s.tick.toNat ≠ 31 → t.phase = .idle ∧ t.bc = s.bc ∧ t.cursor = s.cursor) ∧
      SameControl s t ∧ SameValues s t ∧ t.calls = s.calls ∧ SameBuffer s t ∧ t.fault = s.fault

/-- R134: TICK in HEADER emits 0x00 and counts it; the fourth enters DATA with `bc` and `cursor` 0. -/
def Obligations.TickInHeader : Prop :=
  ∀ s : State, s.running = true → s.phase = .header →
    ∃ t, exec .tick s = .next t ∧ t.txlog = s.txlog ++ [0x00] ∧ t.tick.toNat = (s.tick.toNat + 1) % 32 ∧
      (s.bc.toNat = 3 → t.phase = .data ∧ t.bc = 0 ∧ t.cursor = 0) ∧
      (s.bc.toNat ≠ 3 → t.phase = .header ∧ t.bc.toNat = (s.bc.toNat + 1) % 256 ∧ t.cursor = s.cursor) ∧
      SameControl s t ∧ SameValues s t ∧ t.calls = s.calls ∧ SameBuffer s t ∧ t.fault = s.fault

/-- R135: TICK in DATA with `bc` even emits the high byte of the cursor's pixel, counts it and leaves the cursor. -/
def Obligations.TickSendsHighByte : Prop :=
  ∀ s : State, s.running = true → s.phase = .data → s.cursor.toNat < s.numLeds.toNat → s.bc.toNat % 2 = 0 →
    ∃ t, exec .tick s = .next t ∧
      t.txlog = s.txlog ++ [BitVec.ofNat 8 ((s.pixel s.cursor.toNat).toNat / 256)] ∧
      t.tick.toNat = (s.tick.toNat + 1) % 32 ∧ t.bc.toNat = (s.bc.toNat + 1) % 256 ∧ t.cursor = s.cursor ∧
      t.phase = .data ∧ SameControl s t ∧ SameValues s t ∧ t.calls = s.calls ∧ SameBuffer s t ∧ t.fault = s.fault

/-- R136: TICK in DATA with `bc` odd emits the low byte, counts it, advances the cursor, and enters DONE exactly when the
advanced cursor is `>= N`. -/
def Obligations.TickSendsLowByte : Prop :=
  ∀ s : State, s.running = true → s.phase = .data → s.cursor.toNat < s.numLeds.toNat → s.bc.toNat % 2 = 1 →
    ∃ t, exec .tick s = .next t ∧
      t.txlog = s.txlog ++ [BitVec.ofNat 8 ((s.pixel s.cursor.toNat).toNat % 256)] ∧
      t.tick.toNat = (s.tick.toNat + 1) % 32 ∧ t.bc.toNat = (s.bc.toNat + 1) % 256 ∧
      t.cursor.toNat = s.cursor.toNat + 1 ∧
      (s.numLeds.toNat ≤ s.cursor.toNat + 1 → t.phase = .done) ∧
      (s.cursor.toNat + 1 < s.numLeds.toNat → t.phase = .data) ∧
      SameControl s t ∧ SameValues s t ∧ t.calls = s.calls ∧ SameBuffer s t ∧ t.fault = s.fault

/-- R137: TICK in DONE emits 0x00; only `tick` and `txlog` change. -/
def Obligations.TickInDone : Prop :=
  ∀ s : State, s.running = true → s.phase = .done →
    ∃ t, exec .tick s = .next t ∧ t.txlog = s.txlog ++ [0x00] ∧ t.tick.toNat = (s.tick.toNat + 1) % 32 ∧
      t.phase = .done ∧ t.bc = s.bc ∧ t.cursor = s.cursor ∧ SameControl s t ∧ SameValues s t ∧ t.calls = s.calls ∧
      SameBuffer s t ∧ t.fault = s.fault

/-- R33: `txlog` starts empty; a running TICK appends exactly one byte and no other instruction appends any. -/
def Obligations.EveryTickEmitsOneByte : Prop :=
  (∀ n : Word16, (State.constructed n).txlog = []) ∧
    ∀ (i : Instr) (s t : State), exec i s = .next t →
      (i = .tick → s.running = true → ∃ b, t.txlog = s.txlog ++ [b]) ∧
      (i ≠ .tick ∨ s.running = false → t.txlog = s.txlog)

/-- R26: `tick` counts every running TICK in every phase, no other instruction changes it, and outside IDLE its value
changes nothing but itself. -/
def Obligations.TickCountsInEveryPhase : Prop :=
  (∀ (i : Instr) (s t : State), exec i s = .next t →
      (i = .tick → s.running = true → t.tick.toNat = (s.tick.toNat + 1) % 32) ∧
      (i ≠ .tick → t.tick = s.tick)) ∧
    ∀ (s t : State) (x : BitVec 5), s.running = true → s.phase ≠ .idle → exec .tick s = .next t →
      exec .tick { s with tick := x } = .next { t with tick := x + 1 }

/-- R130: a running TICK writes the same byte and the same sequencer registers in two states that agree on what it
reads: `phase`, `bc`, `cursor`, `tick`, `running`, N and the cursor's pixel. -/
def Obligations.TickReadsOnlyItsInputs : Prop :=
  ∀ s s' t : State, SameSequencer s s' → s'.running = s.running → s'.numLeds = s.numLeds →
    s'.pixel s.cursor.toNat = s.pixel s.cursor.toNat → s.running = true → exec .tick s = .next t →
      ∃ t' b, exec .tick s' = .next t' ∧ SameSequencer t t' ∧ t.txlog = s.txlog ++ [b] ∧
        t'.txlog = s'.txlog ++ [b]

/-- R82: in a state of the invariant a TICK emits one byte: 0x00 outside DATA; in DATA the high byte of the cursor's pixel,
which has bit 7 set, or its low byte, bits 7:0. A low byte can have any value, so only the high byte carries the marker. -/
def Obligations.OnlyHighBytesCarryTheMarker : Prop :=
  (∀ s : State, BlockInv s → s.running = true → ∃ t b, exec .tick s = .next t ∧ t.txlog = s.txlog ++ [b] ∧
      (s.phase ≠ .data → b = 0x00) ∧
      (s.phase = .data → s.bc.toNat % 2 = 0 →
        b.toNat = (s.pixel s.cursor.toNat).toNat / 256 ∧ b.getLsbD 7 = true) ∧
      (s.phase = .data → s.bc.toNat % 2 = 1 → b.toNat = (s.pixel s.cursor.toNat).toNat % 256)) ∧
    ∀ v : Byte, ∃ s t : State, BlockInv s ∧ s.running = true ∧ s.phase = .data ∧ s.bc.toNat % 2 = 1 ∧
      exec .tick s = .next t ∧ t.txlog = s.txlog ++ [v]

/-- R133: from IDLE with `tick = t` and no Foreground step, the next `32 - t` TICKs are IDLE TICKs that emit 0x00, and the
last of them moves to HEADER; after a construction `tick` is 0; a SHOW that finds IDLE changes nothing. -/
def Obligations.IdleDwellIsThirtyTwoMinusTick : Prop :=
  (∀ s : State, s.running = true → s.phase = .idle →
      (∀ k, k < 32 - s.tick.toNat →
        ∃ u, runTicks k s = .next u ∧ u.phase = .idle ∧ u.txlog = s.txlog ++ zeros k) ∧
      ∃ u, runTicks (32 - s.tick.toNat) s = .next u ∧ u.phase = .header ∧ u.bc = 0 ∧ u.cursor = 0 ∧ u.tick = 0 ∧
        u.txlog = s.txlog ++ zeros (32 - s.tick.toNat)) ∧
    (∀ n : Word16, (State.constructed n).phase = .idle ∧ (State.constructed n).tick = 0) ∧
    ∀ s : State, s.phase = .idle → ∃ t, exec .showFrame s = .next t ∧ SameBlock s t ∧ t.fault = s.fault

/-- R139: after the entry into HEADER, in every order of the agents' steps with no SHOW and no END between and no fault,
the next `4 + 2N` TICKs emit 4 zero bytes and then every pixel's two bytes in cursor order, the last of them enters
DONE, and later TICKs emit 0x00. -/
def Obligations.FrameShapeUnderInterleaving : Prop :=
  ∀ (s t : State) (is : List Instr), s.phase = .header → s.bc = 0 → s.cursor = 0 → s.running = true →
    s.numLeds ≠ 0 → (∀ i ∈ is, i ≠ .showFrame ∧ i ≠ .endBlock) → runEvents is s = .next t → t.fault = [] →
      (is.count .tick < 4 + 2 * s.numLeds.toNat →
        t.phase ≠ .done ∧ t.txlog = s.txlog ++ (zeros 4 ++ frameBytes s).take (is.count .tick)) ∧
      (4 + 2 * s.numLeds.toNat ≤ is.count .tick →
        t.phase = .done ∧
          t.txlog = s.txlog ++ zeros 4 ++ frameBytes s ++ zeros (is.count .tick - (4 + 2 * s.numLeds.toNat)))

/-- R143: a full cycle from IDLE with `tick = t`: `32 - t` zero bytes, 4 zero bytes, the `2N` data bytes in cursor order,
then zero bytes; first with no Foreground step between, then in every order of the agents' steps: any Foreground step
before the TICK that enters HEADER, and after it any but SHOW and END with no fault. The data bytes are the buffer at the
entry into HEADER. -/
def Obligations.FullTransmitCycle : Prop :=
  (∀ (s : State) (k : Nat), s.phase = .idle → s.running = true → s.numLeds ≠ 0 →
      ∃ t, runTicks (32 - s.tick.toNat + 4 + 2 * s.numLeds.toNat + k) s = .next t ∧ t.phase = .done ∧
        t.txlog = s.txlog ++ zeros (32 - s.tick.toNat) ++ zeros 4 ++ frameBytes s ++ zeros k ∧ SameBuffer s t) ∧
    ∀ (s u t : State) (is js : List Instr), s.phase = .idle → s.running = true → s.numLeds ≠ 0 →
      is.count .tick = 31 - s.tick.toNat → runEvents (is ++ [.tick]) s = .next u →
        (∀ i ∈ js, i ≠ .showFrame ∧ i ≠ .endBlock) → runEvents js u = .next t → t.fault = [] →
          u.phase = .header ∧ u.bc = 0 ∧ u.cursor = 0 ∧ u.txlog = s.txlog ++ zeros (32 - s.tick.toNat) ∧
          (js.count .tick < 4 + 2 * s.numLeds.toNat →
            t.phase ≠ .done ∧ t.txlog = u.txlog ++ (zeros 4 ++ frameBytes u).take (js.count .tick)) ∧
          (4 + 2 * s.numLeds.toNat ≤ js.count .tick →
            t.phase = .done ∧
              t.txlog = u.txlog ++ zeros 4 ++ frameBytes u ++ zeros (js.count .tick - (4 + 2 * s.numLeds.toNat)))

/-- R175: while the timer runs, DONE is reached within 32 TICKs in IDLE, 4 in HEADER and `2N` in DATA. -/
def Obligations.DoneIsReachedWithinBound : Prop :=
  ∀ s : State, BlockInv s → s.running = true →
    ∃ k t, runTicks k s = .next t ∧ t.phase = .done ∧
      k ≤ (if s.phase = .idle then 32 + 4 + 2 * s.numLeds.toNat else if s.phase = .header then
        4 + 2 * s.numLeds.toNat else if s.phase = .data then 2 * s.numLeds.toNat else 0)

/-- R140, R232: SHOW writes IDLE and nothing else, in every phase. -/
def Obligations.ShowWritesOnlyPhase : Prop :=
  ∀ s : State, ∃ t, exec .showFrame s = .next t ∧ t.phase = .idle ∧ t.tick = s.tick ∧ t.bc = s.bc ∧
    t.cursor = s.cursor ∧ SameControl s t ∧ SameValues s t ∧ SameOutputs s t ∧ SameBuffer s t ∧ t.fault = s.fault

/-- R141: SHOW in HEADER or DATA stops the frame: the next byte is the IDLE byte 0x00, and the stale `bc` and `cursor`
are overwritten on the next entry into HEADER. -/
def Obligations.ShowCutsTheFrameShort : Prop :=
  ∀ s : State, s.running = true → s.phase = .header ∨ s.phase = .data →
    ∃ t, exec .showFrame s = .next t ∧ t.phase = .idle ∧ t.txlog = s.txlog ∧
      (∃ u, runTicks 1 t = .next u ∧ u.txlog = s.txlog ++ [0x00]) ∧
      ∃ v, runTicks (32 - s.tick.toNat) t = .next v ∧ v.phase = .header ∧ v.bc = 0 ∧ v.cursor = 0 ∧
        v.txlog = s.txlog ++ zeros (32 - s.tick.toNat)

/-- R62: only TICK enters DONE and only SHOW and END leave it, so DONE stays through every step of the Timer. -/
def Obligations.DoneIsLeftOnlyByShowOrEnd : Prop :=
  (∀ (i : Instr) (s t : State), exec i s = .next t →
      (s.phase ≠ .done → t.phase = .done → i = .tick) ∧
      (s.phase = .done → t.phase ≠ .done → i = .showFrame ∨ i = .endBlock)) ∧
    ∀ s t : State, step s = .next t → nextAgent s = some .timer → s.phase = .done → t.phase = .done

/-! ### Driver control (42_driver_control.md) -/

/-- R170: the first BEGIN configures the serial driver most-significant bit first, hands the timer `TICK_PERIOD_US`
whatever was requested before, attaches it, and sets `running` and `begun`. -/
def Obligations.BeginStartsTheTimer : Prop :=
  ∀ s : State, s.begun = false →
    ∃ t, exec .beginBlock s = .next t ∧ t.running = true ∧ t.begun = true ∧ t.endPending = s.endPending ∧
      t.calls = s.calls ++ [.serialConfigure .msbFirst Config.serialClockMode Config.serialClockDivider,
        .timerInitialize Config.tickPeriodUs, .timerAttach] ∧
      t.txlog = s.txlog ∧ SameSequencer s t ∧ SameValues s t ∧ SameBuffer s t ∧ t.fault = s.fault

/-- R28, R171, R205: `begun` starts 0, is set by the first BEGIN and never cleared, and a BEGIN with `begun = 1` raises `BeginTwice`. -/
def Obligations.SecondBeginFaults : Prop :=
  (∀ n : Word16, (State.constructed n).begun = false) ∧
    (∀ s : State, s.begun = false → ∃ t, exec .beginBlock s = .next t ∧ t.begun = true) ∧
    (∀ s : State, s.begun = true → s.fault = [] →
      ∃ t, exec .beginBlock s = .next t ∧ t.fault = [.beginTwice] ∧ SameBlock s t) ∧
    ∀ s t : State, step s = .next t → s.begun = true → t.begun = true

/-- R172: FLUSH completes in DONE with no state change; elsewhere it holds and changes nothing, the command staying the
next one (log 7, log 9). -/
def Obligations.FlushCompletesInDone : Prop :=
  ∀ s : State,
    (s.phase = .done →
      ∃ t, exec .flush s = .next t ∧ SameBlock s t ∧ t.fault = s.fault ∧ t.cmdIn = s.cmdIn.tail) ∧
    (s.phase ≠ .done → exec .flush s = .next s)

/-- R173: END's first step outside a frame clears every pixel to 0x8000, writes IDLE and sets `end_pending`; nothing else
changes. -/
def Obligations.EndClearsAndSchedules : Prop :=
  ∀ s : State, s.pix.wf = true → s.endPending = false → s.phase = .idle ∨ s.phase = .done →
    ∃ t, exec .endBlock s = .next t ∧ (∀ i, i < s.numLeds.toNat → t.pixel i = 0x8000) ∧
      (∀ a, 2 * s.numLeds.toNat ≤ a → t.pix.readByte a = s.pix.readByte a) ∧ t.numLeds = s.numLeds ∧
      t.phase = .idle ∧ t.endPending = true ∧ t.bc = s.bc ∧ t.cursor = s.cursor ∧ t.tick = s.tick ∧
      t.running = s.running ∧ t.begun = s.begun ∧ SameValues s t ∧ SameOutputs s t ∧ t.fault = s.fault

/-- R174: END's second step in DONE shuts the serial driver down, detaches and stops the timer, and clears `running` and
`end_pending`; elsewhere it holds and changes nothing. -/
def Obligations.EndStopsInDone : Prop :=
  ∀ s : State, s.endPending = true →
    (s.phase = .done →
      ∃ t, exec .endBlock s = .next t ∧ t.running = false ∧ t.endPending = false ∧ t.begun = s.begun ∧
        t.calls = s.calls ++ [.serialShutdown, .timerDetach, .timerStop] ∧ t.txlog = s.txlog ∧ SameSequencer s t ∧
        SameValues s t ∧ SameBuffer s t ∧ t.fault = s.fault) ∧
    (s.phase ≠ .done → exec .endBlock s = .next s)

/-- R174: an END issued outside a frame while the timer runs sends one all-black frame, after which its second step leaves
DONE, the timer stopped and every pixel black. -/
def Obligations.EndSendsOneBlackFrame : Prop :=
  ∀ s : State, BlockInv s → s.running = true → s.endPending = false → s.phase = .idle ∨ s.phase = .done →
    ∃ u v w, exec .endBlock s = .next u ∧
      runTicks (32 - s.tick.toNat + 4 + 2 * s.numLeds.toNat) u = .next v ∧
      v.txlog = s.txlog ++ zeros (32 - s.tick.toNat + 4) ++
        (List.replicate s.numLeds.toNat [0x80#8, 0x00#8]).flatten ∧
      exec .endBlock v = .next w ∧ w.phase = .done ∧ w.running = false ∧ w.endPending = false ∧
      w.txlog = v.txlog ∧ ∀ i, i < s.numLeds.toNat → w.pixel i = 0x8000

/-- R176: SETREFRESHRATE records the request and hands its period to the timer; no sequencer state changes. -/
def Obligations.SetRefreshRateRecordsRequest : Prop :=
  ∀ (s : State) (pct : Byte), ∃ t, exec (.setRefreshRate pct) s = .next t ∧ t.rateReq = pct ∧
    t.calls = s.calls ++ [.timerInitialize (Config.refreshPeriod pct)] ∧ t.txlog = s.txlog ∧ t.result = s.result ∧
    t.returns = s.returns ∧ SameSequencer s t ∧ SameControl s t ∧ SameBuffer s t ∧ t.fault = s.fault

/-- R176: the byte sequence as a function of the TICK sequence is the same for every `pct`. -/
def Obligations.RefreshRateNeverChangesBytes : Prop :=
  ∀ (s t u : State) (pct : Byte) (k : Nat), exec (.setRefreshRate pct) s = .next t → runTicks k s = .next u →
    ∃ u', runTicks k t = .next u' ∧ u'.txlog = u.txlog ∧ SameSequencer u u'

/-- R177, R226: once the timer is stopped after a BEGIN, no step starts it again or emits a byte. -/
def Obligations.StoppedForGood : Prop :=
  ∀ s t : State, s.begun = true → s.running = false → step s = .next t →
    t.begun = true ∧ t.running = false ∧ t.txlog = s.txlog

/-! ### Ports (10_state.md R40) -/

/-- R40: what each port shows at a step, as the model computes the ports (`Outputs.of` and `State.timerPeriod`, DEDUCED, log
18: `cmd_result` is the level of `result`, the strobes are what the step adds to the logs): a running TICK strobes `tx_byte` alone, the first BEGIN `ser_configure`,
`tmr_start` and `tmr_period`, END's second step in DONE `ser_shutdown` and `tmr_stop`, SETREFRESHRATE `tmr_period` with
its period. -/
def Obligations.PortsStrobeAsTheRulesSay : Prop :=
  (∀ s t : State, s.running = true → exec .tick s = .next t →
      ∃ b, Outputs.of s t = ⟨s.result, t.cmdHeld, some b, false, false, false, none, false⟩ ∧
        t.txlog = s.txlog ++ [b]) ∧
    (∀ s t : State, s.begun = false → exec .beginBlock s = .next t →
      Outputs.of s t = ⟨s.result, t.cmdHeld, none, true, false, true, some Config.tickPeriodUs, false⟩) ∧
    (∀ s t : State, s.endPending = true → s.phase = .done → exec .endBlock s = .next t →
      Outputs.of s t = ⟨s.result, t.cmdHeld, none, false, true, false, none, true⟩) ∧
    ∀ (s t : State) (pct : Byte), exec (.setRefreshRate pct) s = .next t →
      Outputs.of s t = ⟨s.result, t.cmdHeld, none, false, false, false, some (Config.refreshPeriod pct), false⟩ ∧
        t.timerPeriod = Config.refreshPeriod pct
end

