-- ==== Sys2Proof/Laws/Encoding.lean ====
section
/-! SUPPORT. Laws/Encoding.lean: the fields of a command word and of its data as numbers, and that fields and words
determine each other (30_encoding.md R70). -/

namespace Sys2Proof

/-- The number of a concatenation (00_scope.md R13). -/
theorem append_toNat {n k : Nat} (x : BitVec n) (y : BitVec k) : (x ++ y).toNat = x.toNat * 2 ^ k + y.toNat := by
  rw [BitVec.toNat_append, ← Nat.shiftLeft_add_eq_or_of_lt y.isLt, Nat.shiftLeft_eq]

/-- A field as a number (00_scope.md R13). -/
theorem extract_toNat {n : Nat} (x : BitVec n) (lo k : Nat) : (x.extractLsb' lo k).toNat = x.toNat / 2 ^ lo % 2 ^ k := by
  rw [BitVec.extractLsb'_toNat, Nat.shiftRight_eq_div_pow]

theorem rgbData_toNat (r g b : Byte) : (rgbData r g b).toNat = r.toNat * 65536 + g.toNat * 256 + b.toNat := by
  refine (append_toNat (0#8 ++ r ++ g) b).trans ?_
  rw [append_toNat, append_toNat, BitVec.toNat_ofNat]
  omega

theorem rawData_toNat (word : Word16) : (rawData word).toNat = word.toNat := by
  refine (append_toNat 0#16 word).trans ?_
  rw [BitVec.toNat_ofNat]
  omega

theorem pctData_toNat (pct : Byte) : (pctData pct).toNat = pct.toNat := by
  refine (append_toNat 0#24 pct).trans ?_
  rw [BitVec.toNat_ofNat]
  omega

theorem wordOf_toNat (f : CommandFields) :
    (wordOf f).toNat = f.op.toNat * 2 ^ 56 + f.z0.toNat * 2 ^ 48 + f.index.toNat * 2 ^ 32 + f.data.toNat := by
  refine (append_toNat (f.op ++ f.z0 ++ f.index) f.data).trans ?_
  rw [append_toNat, append_toNat]
  omega

/-- The fields of the word made of fields. -/
theorem fieldsOf_wordOf (f : CommandFields) : fieldsOf (wordOf f) = f := by
  have h := wordOf_toNat f
  obtain ⟨op, z0, index, data⟩ := f
  have h0 := op.isLt
  have h1 := z0.isLt
  have h2 := index.isLt
  have h3 := data.isLt
  simp only [fieldsOf, CommandFields.mk.injEq]
  refine ⟨?_, ?_, ?_, ?_⟩ <;> apply BitVec.eq_of_toNat_eq <;> rw [extract_toNat, h] <;> simp only <;> omega

/-- The word made of a word's fields. -/
theorem wordOf_fieldsOf (w : CommandWord) : wordOf (fieldsOf w) = w := by
  apply BitVec.eq_of_toNat_eq
  have := w.isLt
  rw [wordOf_toNat]
  simp only [fieldsOf, extract_toNat]
  omega

end Sys2Proof
end

