-- ==== Sys2Proof/Laws/State.lean ====
section
/-! SUPPORT. Laws/State.lean: what each named update of Machine/Ops.lean leaves in each field, one lemma per field per
update, and the fields of the state after a construction. -/

namespace Sys2Proof.Machine

variable (s : State)

@[simp] theorem State.memWrite_pix (index w : Word16) : (s.memWrite index w).pix = s.pix.writeWord index.toNat w := rfl
@[simp] theorem State.memWrite_numLeds (index w : Word16) : (s.memWrite index w).numLeds = s.numLeds := rfl
@[simp] theorem State.memWrite_phase (index w : Word16) : (s.memWrite index w).phase = s.phase := rfl
@[simp] theorem State.memWrite_bc (index w : Word16) : (s.memWrite index w).bc = s.bc := rfl
@[simp] theorem State.memWrite_cursor (index w : Word16) : (s.memWrite index w).cursor = s.cursor := rfl
@[simp] theorem State.memWrite_tick (index w : Word16) : (s.memWrite index w).tick = s.tick := rfl
@[simp] theorem State.memWrite_running (index w : Word16) : (s.memWrite index w).running = s.running := rfl
@[simp] theorem State.memWrite_begun (index w : Word16) : (s.memWrite index w).begun = s.begun := rfl
@[simp] theorem State.memWrite_endPending (index w : Word16) : (s.memWrite index w).endPending = s.endPending := rfl
@[simp] theorem State.memWrite_result (index w : Word16) : (s.memWrite index w).result = s.result := rfl
@[simp] theorem State.memWrite_rateReq (index w : Word16) : (s.memWrite index w).rateReq = s.rateReq := rfl
@[simp] theorem State.memWrite_fault (index w : Word16) : (s.memWrite index w).fault = s.fault := rfl
@[simp] theorem State.memWrite_txlog (index w : Word16) : (s.memWrite index w).txlog = s.txlog := rfl
@[simp] theorem State.memWrite_returns (index w : Word16) : (s.memWrite index w).returns = s.returns := rfl
@[simp] theorem State.memWrite_calls (index w : Word16) : (s.memWrite index w).calls = s.calls := rfl
@[simp] theorem State.memWrite_cmdIn (index w : Word16) : (s.memWrite index w).cmdIn = s.cmdIn := rfl
@[simp] theorem State.memWrite_schedule (index w : Word16) : (s.memWrite index w).schedule = s.schedule := rfl
@[simp] theorem State.memWrite_turn (index w : Word16) : (s.memWrite index w).turn = s.turn := rfl

@[simp] theorem State.clearBuffer_pix : s.clearBuffer.pix = Memory.clearWords s.numLeds.toNat s.pix := rfl
@[simp] theorem State.clearBuffer_numLeds : s.clearBuffer.numLeds = s.numLeds := rfl
@[simp] theorem State.clearBuffer_phase : s.clearBuffer.phase = s.phase := rfl
@[simp] theorem State.clearBuffer_bc : s.clearBuffer.bc = s.bc := rfl
@[simp] theorem State.clearBuffer_cursor : s.clearBuffer.cursor = s.cursor := rfl
@[simp] theorem State.clearBuffer_tick : s.clearBuffer.tick = s.tick := rfl
@[simp] theorem State.clearBuffer_running : s.clearBuffer.running = s.running := rfl
@[simp] theorem State.clearBuffer_begun : s.clearBuffer.begun = s.begun := rfl
@[simp] theorem State.clearBuffer_endPending : s.clearBuffer.endPending = s.endPending := rfl
@[simp] theorem State.clearBuffer_result : s.clearBuffer.result = s.result := rfl
@[simp] theorem State.clearBuffer_rateReq : s.clearBuffer.rateReq = s.rateReq := rfl
@[simp] theorem State.clearBuffer_fault : s.clearBuffer.fault = s.fault := rfl
@[simp] theorem State.clearBuffer_txlog : s.clearBuffer.txlog = s.txlog := rfl
@[simp] theorem State.clearBuffer_returns : s.clearBuffer.returns = s.returns := rfl
@[simp] theorem State.clearBuffer_calls : s.clearBuffer.calls = s.calls := rfl
@[simp] theorem State.clearBuffer_cmdIn : s.clearBuffer.cmdIn = s.cmdIn := rfl
@[simp] theorem State.clearBuffer_schedule : s.clearBuffer.schedule = s.schedule := rfl
@[simp] theorem State.clearBuffer_turn : s.clearBuffer.turn = s.turn := rfl

@[simp] theorem State.emit_pix (b : Byte) : (s.emit b).pix = s.pix := rfl
@[simp] theorem State.emit_numLeds (b : Byte) : (s.emit b).numLeds = s.numLeds := rfl
@[simp] theorem State.emit_phase (b : Byte) : (s.emit b).phase = s.phase := rfl
@[simp] theorem State.emit_bc (b : Byte) : (s.emit b).bc = s.bc := rfl
@[simp] theorem State.emit_cursor (b : Byte) : (s.emit b).cursor = s.cursor := rfl
@[simp] theorem State.emit_tick (b : Byte) : (s.emit b).tick = s.tick := rfl
@[simp] theorem State.emit_running (b : Byte) : (s.emit b).running = s.running := rfl
@[simp] theorem State.emit_begun (b : Byte) : (s.emit b).begun = s.begun := rfl
@[simp] theorem State.emit_endPending (b : Byte) : (s.emit b).endPending = s.endPending := rfl
@[simp] theorem State.emit_result (b : Byte) : (s.emit b).result = s.result := rfl
@[simp] theorem State.emit_rateReq (b : Byte) : (s.emit b).rateReq = s.rateReq := rfl
@[simp] theorem State.emit_fault (b : Byte) : (s.emit b).fault = s.fault := rfl
@[simp] theorem State.emit_txlog (b : Byte) : (s.emit b).txlog = s.txlog ++ [b] := rfl
@[simp] theorem State.emit_returns (b : Byte) : (s.emit b).returns = s.returns := rfl
@[simp] theorem State.emit_calls (b : Byte) : (s.emit b).calls = s.calls := rfl
@[simp] theorem State.emit_cmdIn (b : Byte) : (s.emit b).cmdIn = s.cmdIn := rfl
@[simp] theorem State.emit_schedule (b : Byte) : (s.emit b).schedule = s.schedule := rfl
@[simp] theorem State.emit_turn (b : Byte) : (s.emit b).turn = s.turn := rfl

@[simp] theorem State.setPhase_pix (p : Phase) : (s.setPhase p).pix = s.pix := rfl
@[simp] theorem State.setPhase_numLeds (p : Phase) : (s.setPhase p).numLeds = s.numLeds := rfl
@[simp] theorem State.setPhase_phase (p : Phase) : (s.setPhase p).phase = p := rfl
@[simp] theorem State.setPhase_bc (p : Phase) : (s.setPhase p).bc = s.bc := rfl
@[simp] theorem State.setPhase_cursor (p : Phase) : (s.setPhase p).cursor = s.cursor := rfl
@[simp] theorem State.setPhase_tick (p : Phase) : (s.setPhase p).tick = s.tick := rfl
@[simp] theorem State.setPhase_running (p : Phase) : (s.setPhase p).running = s.running := rfl
@[simp] theorem State.setPhase_begun (p : Phase) : (s.setPhase p).begun = s.begun := rfl
@[simp] theorem State.setPhase_endPending (p : Phase) : (s.setPhase p).endPending = s.endPending := rfl
@[simp] theorem State.setPhase_result (p : Phase) : (s.setPhase p).result = s.result := rfl
@[simp] theorem State.setPhase_rateReq (p : Phase) : (s.setPhase p).rateReq = s.rateReq := rfl
@[simp] theorem State.setPhase_fault (p : Phase) : (s.setPhase p).fault = s.fault := rfl
@[simp] theorem State.setPhase_txlog (p : Phase) : (s.setPhase p).txlog = s.txlog := rfl
@[simp] theorem State.setPhase_returns (p : Phase) : (s.setPhase p).returns = s.returns := rfl
@[simp] theorem State.setPhase_calls (p : Phase) : (s.setPhase p).calls = s.calls := rfl
@[simp] theorem State.setPhase_cmdIn (p : Phase) : (s.setPhase p).cmdIn = s.cmdIn := rfl
@[simp] theorem State.setPhase_schedule (p : Phase) : (s.setPhase p).schedule = s.schedule := rfl
@[simp] theorem State.setPhase_turn (p : Phase) : (s.setPhase p).turn = s.turn := rfl

@[simp] theorem State.enterPhase_pix (p : Phase) : (s.enterPhase p).pix = s.pix := rfl
@[simp] theorem State.enterPhase_numLeds (p : Phase) : (s.enterPhase p).numLeds = s.numLeds := rfl
@[simp] theorem State.enterPhase_phase (p : Phase) : (s.enterPhase p).phase = p := rfl
@[simp] theorem State.enterPhase_bc (p : Phase) : (s.enterPhase p).bc = 0#8 := rfl
@[simp] theorem State.enterPhase_cursor (p : Phase) : (s.enterPhase p).cursor = 0#16 := rfl
@[simp] theorem State.enterPhase_tick (p : Phase) : (s.enterPhase p).tick = s.tick := rfl
@[simp] theorem State.enterPhase_running (p : Phase) : (s.enterPhase p).running = s.running := rfl
@[simp] theorem State.enterPhase_begun (p : Phase) : (s.enterPhase p).begun = s.begun := rfl
@[simp] theorem State.enterPhase_endPending (p : Phase) : (s.enterPhase p).endPending = s.endPending := rfl
@[simp] theorem State.enterPhase_result (p : Phase) : (s.enterPhase p).result = s.result := rfl
@[simp] theorem State.enterPhase_rateReq (p : Phase) : (s.enterPhase p).rateReq = s.rateReq := rfl
@[simp] theorem State.enterPhase_fault (p : Phase) : (s.enterPhase p).fault = s.fault := rfl
@[simp] theorem State.enterPhase_txlog (p : Phase) : (s.enterPhase p).txlog = s.txlog := rfl
@[simp] theorem State.enterPhase_returns (p : Phase) : (s.enterPhase p).returns = s.returns := rfl
@[simp] theorem State.enterPhase_calls (p : Phase) : (s.enterPhase p).calls = s.calls := rfl
@[simp] theorem State.enterPhase_cmdIn (p : Phase) : (s.enterPhase p).cmdIn = s.cmdIn := rfl
@[simp] theorem State.enterPhase_schedule (p : Phase) : (s.enterPhase p).schedule = s.schedule := rfl
@[simp] theorem State.enterPhase_turn (p : Phase) : (s.enterPhase p).turn = s.turn := rfl

@[simp] theorem State.countTick_pix : s.countTick.pix = s.pix := rfl
@[simp] theorem State.countTick_numLeds : s.countTick.numLeds = s.numLeds := rfl
@[simp] theorem State.countTick_phase : s.countTick.phase = s.phase := rfl
@[simp] theorem State.countTick_bc : s.countTick.bc = s.bc := rfl
@[simp] theorem State.countTick_cursor : s.countTick.cursor = s.cursor := rfl
@[simp] theorem State.countTick_tick : s.countTick.tick = s.tick + 1#5 := rfl
@[simp] theorem State.countTick_running : s.countTick.running = s.running := rfl
@[simp] theorem State.countTick_begun : s.countTick.begun = s.begun := rfl
@[simp] theorem State.countTick_endPending : s.countTick.endPending = s.endPending := rfl
@[simp] theorem State.countTick_result : s.countTick.result = s.result := rfl
@[simp] theorem State.countTick_rateReq : s.countTick.rateReq = s.rateReq := rfl
@[simp] theorem State.countTick_fault : s.countTick.fault = s.fault := rfl
@[simp] theorem State.countTick_txlog : s.countTick.txlog = s.txlog := rfl
@[simp] theorem State.countTick_returns : s.countTick.returns = s.returns := rfl
@[simp] theorem State.countTick_calls : s.countTick.calls = s.calls := rfl
@[simp] theorem State.countTick_cmdIn : s.countTick.cmdIn = s.cmdIn := rfl
@[simp] theorem State.countTick_schedule : s.countTick.schedule = s.schedule := rfl
@[simp] theorem State.countTick_turn : s.countTick.turn = s.turn := rfl

@[simp] theorem State.countByte_pix : s.countByte.pix = s.pix := rfl
@[simp] theorem State.countByte_numLeds : s.countByte.numLeds = s.numLeds := rfl
@[simp] theorem State.countByte_phase : s.countByte.phase = s.phase := rfl
@[simp] theorem State.countByte_bc : s.countByte.bc = s.bc + 1#8 := rfl
@[simp] theorem State.countByte_cursor : s.countByte.cursor = s.cursor := rfl
@[simp] theorem State.countByte_tick : s.countByte.tick = s.tick := rfl
@[simp] theorem State.countByte_running : s.countByte.running = s.running := rfl
@[simp] theorem State.countByte_begun : s.countByte.begun = s.begun := rfl
@[simp] theorem State.countByte_endPending : s.countByte.endPending = s.endPending := rfl
@[simp] theorem State.countByte_result : s.countByte.result = s.result := rfl
@[simp] theorem State.countByte_rateReq : s.countByte.rateReq = s.rateReq := rfl
@[simp] theorem State.countByte_fault : s.countByte.fault = s.fault := rfl
@[simp] theorem State.countByte_txlog : s.countByte.txlog = s.txlog := rfl
@[simp] theorem State.countByte_returns : s.countByte.returns = s.returns := rfl
@[simp] theorem State.countByte_calls : s.countByte.calls = s.calls := rfl
@[simp] theorem State.countByte_cmdIn : s.countByte.cmdIn = s.cmdIn := rfl
@[simp] theorem State.countByte_schedule : s.countByte.schedule = s.schedule := rfl
@[simp] theorem State.countByte_turn : s.countByte.turn = s.turn := rfl

@[simp] theorem State.advanceCursor_pix : s.advanceCursor.pix = s.pix := rfl
@[simp] theorem State.advanceCursor_numLeds : s.advanceCursor.numLeds = s.numLeds := rfl
@[simp] theorem State.advanceCursor_phase : s.advanceCursor.phase = s.phase := rfl
@[simp] theorem State.advanceCursor_bc : s.advanceCursor.bc = s.bc := rfl
@[simp] theorem State.advanceCursor_cursor : s.advanceCursor.cursor = s.cursor + 1#16 := rfl
@[simp] theorem State.advanceCursor_tick : s.advanceCursor.tick = s.tick := rfl
@[simp] theorem State.advanceCursor_running : s.advanceCursor.running = s.running := rfl
@[simp] theorem State.advanceCursor_begun : s.advanceCursor.begun = s.begun := rfl
@[simp] theorem State.advanceCursor_endPending : s.advanceCursor.endPending = s.endPending := rfl
@[simp] theorem State.advanceCursor_result : s.advanceCursor.result = s.result := rfl
@[simp] theorem State.advanceCursor_rateReq : s.advanceCursor.rateReq = s.rateReq := rfl
@[simp] theorem State.advanceCursor_fault : s.advanceCursor.fault = s.fault := rfl
@[simp] theorem State.advanceCursor_txlog : s.advanceCursor.txlog = s.txlog := rfl
@[simp] theorem State.advanceCursor_returns : s.advanceCursor.returns = s.returns := rfl
@[simp] theorem State.advanceCursor_calls : s.advanceCursor.calls = s.calls := rfl
@[simp] theorem State.advanceCursor_cmdIn : s.advanceCursor.cmdIn = s.cmdIn := rfl
@[simp] theorem State.advanceCursor_schedule : s.advanceCursor.schedule = s.schedule := rfl
@[simp] theorem State.advanceCursor_turn : s.advanceCursor.turn = s.turn := rfl

@[simp] theorem State.setRunning_pix (b : Bool) : (s.setRunning b).pix = s.pix := rfl
@[simp] theorem State.setRunning_numLeds (b : Bool) : (s.setRunning b).numLeds = s.numLeds := rfl
@[simp] theorem State.setRunning_phase (b : Bool) : (s.setRunning b).phase = s.phase := rfl
@[simp] theorem State.setRunning_bc (b : Bool) : (s.setRunning b).bc = s.bc := rfl
@[simp] theorem State.setRunning_cursor (b : Bool) : (s.setRunning b).cursor = s.cursor := rfl
@[simp] theorem State.setRunning_tick (b : Bool) : (s.setRunning b).tick = s.tick := rfl
@[simp] theorem State.setRunning_running (b : Bool) : (s.setRunning b).running = b := rfl
@[simp] theorem State.setRunning_begun (b : Bool) : (s.setRunning b).begun = s.begun := rfl
@[simp] theorem State.setRunning_endPending (b : Bool) : (s.setRunning b).endPending = s.endPending := rfl
@[simp] theorem State.setRunning_result (b : Bool) : (s.setRunning b).result = s.result := rfl
@[simp] theorem State.setRunning_rateReq (b : Bool) : (s.setRunning b).rateReq = s.rateReq := rfl
@[simp] theorem State.setRunning_fault (b : Bool) : (s.setRunning b).fault = s.fault := rfl
@[simp] theorem State.setRunning_txlog (b : Bool) : (s.setRunning b).txlog = s.txlog := rfl
@[simp] theorem State.setRunning_returns (b : Bool) : (s.setRunning b).returns = s.returns := rfl
@[simp] theorem State.setRunning_calls (b : Bool) : (s.setRunning b).calls = s.calls := rfl
@[simp] theorem State.setRunning_cmdIn (b : Bool) : (s.setRunning b).cmdIn = s.cmdIn := rfl
@[simp] theorem State.setRunning_schedule (b : Bool) : (s.setRunning b).schedule = s.schedule := rfl
@[simp] theorem State.setRunning_turn (b : Bool) : (s.setRunning b).turn = s.turn := rfl

@[simp] theorem State.setBegun_pix : s.setBegun.pix = s.pix := rfl
@[simp] theorem State.setBegun_numLeds : s.setBegun.numLeds = s.numLeds := rfl
@[simp] theorem State.setBegun_phase : s.setBegun.phase = s.phase := rfl
@[simp] theorem State.setBegun_bc : s.setBegun.bc = s.bc := rfl
@[simp] theorem State.setBegun_cursor : s.setBegun.cursor = s.cursor := rfl
@[simp] theorem State.setBegun_tick : s.setBegun.tick = s.tick := rfl
@[simp] theorem State.setBegun_running : s.setBegun.running = s.running := rfl
@[simp] theorem State.setBegun_begun : s.setBegun.begun = true := rfl
@[simp] theorem State.setBegun_endPending : s.setBegun.endPending = s.endPending := rfl
@[simp] theorem State.setBegun_result : s.setBegun.result = s.result := rfl
@[simp] theorem State.setBegun_rateReq : s.setBegun.rateReq = s.rateReq := rfl
@[simp] theorem State.setBegun_fault : s.setBegun.fault = s.fault := rfl
@[simp] theorem State.setBegun_txlog : s.setBegun.txlog = s.txlog := rfl
@[simp] theorem State.setBegun_returns : s.setBegun.returns = s.returns := rfl
@[simp] theorem State.setBegun_calls : s.setBegun.calls = s.calls := rfl
@[simp] theorem State.setBegun_cmdIn : s.setBegun.cmdIn = s.cmdIn := rfl
@[simp] theorem State.setBegun_schedule : s.setBegun.schedule = s.schedule := rfl
@[simp] theorem State.setBegun_turn : s.setBegun.turn = s.turn := rfl

@[simp] theorem State.setEndPending_pix (b : Bool) : (s.setEndPending b).pix = s.pix := rfl
@[simp] theorem State.setEndPending_numLeds (b : Bool) : (s.setEndPending b).numLeds = s.numLeds := rfl
@[simp] theorem State.setEndPending_phase (b : Bool) : (s.setEndPending b).phase = s.phase := rfl
@[simp] theorem State.setEndPending_bc (b : Bool) : (s.setEndPending b).bc = s.bc := rfl
@[simp] theorem State.setEndPending_cursor (b : Bool) : (s.setEndPending b).cursor = s.cursor := rfl
@[simp] theorem State.setEndPending_tick (b : Bool) : (s.setEndPending b).tick = s.tick := rfl
@[simp] theorem State.setEndPending_running (b : Bool) : (s.setEndPending b).running = s.running := rfl
@[simp] theorem State.setEndPending_begun (b : Bool) : (s.setEndPending b).begun = s.begun := rfl
@[simp] theorem State.setEndPending_endPending (b : Bool) : (s.setEndPending b).endPending = b := rfl
@[simp] theorem State.setEndPending_result (b : Bool) : (s.setEndPending b).result = s.result := rfl
@[simp] theorem State.setEndPending_rateReq (b : Bool) : (s.setEndPending b).rateReq = s.rateReq := rfl
@[simp] theorem State.setEndPending_fault (b : Bool) : (s.setEndPending b).fault = s.fault := rfl
@[simp] theorem State.setEndPending_txlog (b : Bool) : (s.setEndPending b).txlog = s.txlog := rfl
@[simp] theorem State.setEndPending_returns (b : Bool) : (s.setEndPending b).returns = s.returns := rfl
@[simp] theorem State.setEndPending_calls (b : Bool) : (s.setEndPending b).calls = s.calls := rfl
@[simp] theorem State.setEndPending_cmdIn (b : Bool) : (s.setEndPending b).cmdIn = s.cmdIn := rfl
@[simp] theorem State.setEndPending_schedule (b : Bool) : (s.setEndPending b).schedule = s.schedule := rfl
@[simp] theorem State.setEndPending_turn (b : Bool) : (s.setEndPending b).turn = s.turn := rfl

@[simp] theorem State.giveResult_pix (v : Word16) : (s.giveResult v).pix = s.pix := rfl
@[simp] theorem State.giveResult_numLeds (v : Word16) : (s.giveResult v).numLeds = s.numLeds := rfl
@[simp] theorem State.giveResult_phase (v : Word16) : (s.giveResult v).phase = s.phase := rfl
@[simp] theorem State.giveResult_bc (v : Word16) : (s.giveResult v).bc = s.bc := rfl
@[simp] theorem State.giveResult_cursor (v : Word16) : (s.giveResult v).cursor = s.cursor := rfl
@[simp] theorem State.giveResult_tick (v : Word16) : (s.giveResult v).tick = s.tick := rfl
@[simp] theorem State.giveResult_running (v : Word16) : (s.giveResult v).running = s.running := rfl
@[simp] theorem State.giveResult_begun (v : Word16) : (s.giveResult v).begun = s.begun := rfl
@[simp] theorem State.giveResult_endPending (v : Word16) : (s.giveResult v).endPending = s.endPending := rfl
@[simp] theorem State.giveResult_result (v : Word16) : (s.giveResult v).result = v := rfl
@[simp] theorem State.giveResult_rateReq (v : Word16) : (s.giveResult v).rateReq = s.rateReq := rfl
@[simp] theorem State.giveResult_fault (v : Word16) : (s.giveResult v).fault = s.fault := rfl
@[simp] theorem State.giveResult_txlog (v : Word16) : (s.giveResult v).txlog = s.txlog := rfl
@[simp] theorem State.giveResult_returns (v : Word16) : (s.giveResult v).returns = s.returns ++ [v] := rfl
@[simp] theorem State.giveResult_calls (v : Word16) : (s.giveResult v).calls = s.calls := rfl
@[simp] theorem State.giveResult_cmdIn (v : Word16) : (s.giveResult v).cmdIn = s.cmdIn := rfl
@[simp] theorem State.giveResult_schedule (v : Word16) : (s.giveResult v).schedule = s.schedule := rfl
@[simp] theorem State.giveResult_turn (v : Word16) : (s.giveResult v).turn = s.turn := rfl

@[simp] theorem State.setRateReq_pix (p : Byte) : (s.setRateReq p).pix = s.pix := rfl
@[simp] theorem State.setRateReq_numLeds (p : Byte) : (s.setRateReq p).numLeds = s.numLeds := rfl
@[simp] theorem State.setRateReq_phase (p : Byte) : (s.setRateReq p).phase = s.phase := rfl
@[simp] theorem State.setRateReq_bc (p : Byte) : (s.setRateReq p).bc = s.bc := rfl
@[simp] theorem State.setRateReq_cursor (p : Byte) : (s.setRateReq p).cursor = s.cursor := rfl
@[simp] theorem State.setRateReq_tick (p : Byte) : (s.setRateReq p).tick = s.tick := rfl
@[simp] theorem State.setRateReq_running (p : Byte) : (s.setRateReq p).running = s.running := rfl
@[simp] theorem State.setRateReq_begun (p : Byte) : (s.setRateReq p).begun = s.begun := rfl
@[simp] theorem State.setRateReq_endPending (p : Byte) : (s.setRateReq p).endPending = s.endPending := rfl
@[simp] theorem State.setRateReq_result (p : Byte) : (s.setRateReq p).result = s.result := rfl
@[simp] theorem State.setRateReq_rateReq (p : Byte) : (s.setRateReq p).rateReq = p := rfl
@[simp] theorem State.setRateReq_fault (p : Byte) : (s.setRateReq p).fault = s.fault := rfl
@[simp] theorem State.setRateReq_txlog (p : Byte) : (s.setRateReq p).txlog = s.txlog := rfl
@[simp] theorem State.setRateReq_returns (p : Byte) : (s.setRateReq p).returns = s.returns := rfl
@[simp] theorem State.setRateReq_calls (p : Byte) : (s.setRateReq p).calls = s.calls := rfl
@[simp] theorem State.setRateReq_cmdIn (p : Byte) : (s.setRateReq p).cmdIn = s.cmdIn := rfl
@[simp] theorem State.setRateReq_schedule (p : Byte) : (s.setRateReq p).schedule = s.schedule := rfl
@[simp] theorem State.setRateReq_turn (p : Byte) : (s.setRateReq p).turn = s.turn := rfl

@[simp] theorem State.callPorts_pix (cs : List Call) : (s.callPorts cs).pix = s.pix := rfl
@[simp] theorem State.callPorts_numLeds (cs : List Call) : (s.callPorts cs).numLeds = s.numLeds := rfl
@[simp] theorem State.callPorts_phase (cs : List Call) : (s.callPorts cs).phase = s.phase := rfl
@[simp] theorem State.callPorts_bc (cs : List Call) : (s.callPorts cs).bc = s.bc := rfl
@[simp] theorem State.callPorts_cursor (cs : List Call) : (s.callPorts cs).cursor = s.cursor := rfl
@[simp] theorem State.callPorts_tick (cs : List Call) : (s.callPorts cs).tick = s.tick := rfl
@[simp] theorem State.callPorts_running (cs : List Call) : (s.callPorts cs).running = s.running := rfl
@[simp] theorem State.callPorts_begun (cs : List Call) : (s.callPorts cs).begun = s.begun := rfl
@[simp] theorem State.callPorts_endPending (cs : List Call) : (s.callPorts cs).endPending = s.endPending := rfl
@[simp] theorem State.callPorts_result (cs : List Call) : (s.callPorts cs).result = s.result := rfl
@[simp] theorem State.callPorts_rateReq (cs : List Call) : (s.callPorts cs).rateReq = s.rateReq := rfl
@[simp] theorem State.callPorts_fault (cs : List Call) : (s.callPorts cs).fault = s.fault := rfl
@[simp] theorem State.callPorts_txlog (cs : List Call) : (s.callPorts cs).txlog = s.txlog := rfl
@[simp] theorem State.callPorts_returns (cs : List Call) : (s.callPorts cs).returns = s.returns := rfl
@[simp] theorem State.callPorts_calls (cs : List Call) : (s.callPorts cs).calls = s.calls ++ cs := rfl
@[simp] theorem State.callPorts_cmdIn (cs : List Call) : (s.callPorts cs).cmdIn = s.cmdIn := rfl
@[simp] theorem State.callPorts_schedule (cs : List Call) : (s.callPorts cs).schedule = s.schedule := rfl
@[simp] theorem State.callPorts_turn (cs : List Call) : (s.callPorts cs).turn = s.turn := rfl

@[simp] theorem State.raiseFault_pix (r : FaultRecord) : (s.raiseFault r).pix = s.pix := rfl
@[simp] theorem State.raiseFault_numLeds (r : FaultRecord) : (s.raiseFault r).numLeds = s.numLeds := rfl
@[simp] theorem State.raiseFault_phase (r : FaultRecord) : (s.raiseFault r).phase = s.phase := rfl
@[simp] theorem State.raiseFault_bc (r : FaultRecord) : (s.raiseFault r).bc = s.bc := rfl
@[simp] theorem State.raiseFault_cursor (r : FaultRecord) : (s.raiseFault r).cursor = s.cursor := rfl
@[simp] theorem State.raiseFault_tick (r : FaultRecord) : (s.raiseFault r).tick = s.tick := rfl
@[simp] theorem State.raiseFault_running (r : FaultRecord) : (s.raiseFault r).running = s.running := rfl
@[simp] theorem State.raiseFault_begun (r : FaultRecord) : (s.raiseFault r).begun = s.begun := rfl
@[simp] theorem State.raiseFault_endPending (r : FaultRecord) : (s.raiseFault r).endPending = s.endPending := rfl
@[simp] theorem State.raiseFault_result (r : FaultRecord) : (s.raiseFault r).result = s.result := rfl
@[simp] theorem State.raiseFault_rateReq (r : FaultRecord) : (s.raiseFault r).rateReq = s.rateReq := rfl
@[simp] theorem State.raiseFault_fault (r : FaultRecord) : (s.raiseFault r).fault = addFault s.fault r := rfl
@[simp] theorem State.raiseFault_txlog (r : FaultRecord) : (s.raiseFault r).txlog = s.txlog := rfl
@[simp] theorem State.raiseFault_returns (r : FaultRecord) : (s.raiseFault r).returns = s.returns := rfl
@[simp] theorem State.raiseFault_calls (r : FaultRecord) : (s.raiseFault r).calls = s.calls := rfl
@[simp] theorem State.raiseFault_cmdIn (r : FaultRecord) : (s.raiseFault r).cmdIn = s.cmdIn := rfl
@[simp] theorem State.raiseFault_schedule (r : FaultRecord) : (s.raiseFault r).schedule = s.schedule := rfl
@[simp] theorem State.raiseFault_turn (r : FaultRecord) : (s.raiseFault r).turn = s.turn := rfl

@[simp] theorem State.retire_pix : s.retire.pix = s.pix := rfl
@[simp] theorem State.retire_numLeds : s.retire.numLeds = s.numLeds := rfl
@[simp] theorem State.retire_phase : s.retire.phase = s.phase := rfl
@[simp] theorem State.retire_bc : s.retire.bc = s.bc := rfl
@[simp] theorem State.retire_cursor : s.retire.cursor = s.cursor := rfl
@[simp] theorem State.retire_tick : s.retire.tick = s.tick := rfl
@[simp] theorem State.retire_running : s.retire.running = s.running := rfl
@[simp] theorem State.retire_begun : s.retire.begun = s.begun := rfl
@[simp] theorem State.retire_endPending : s.retire.endPending = s.endPending := rfl
@[simp] theorem State.retire_result : s.retire.result = s.result := rfl
@[simp] theorem State.retire_rateReq : s.retire.rateReq = s.rateReq := rfl
@[simp] theorem State.retire_fault : s.retire.fault = s.fault := rfl
@[simp] theorem State.retire_txlog : s.retire.txlog = s.txlog := rfl
@[simp] theorem State.retire_returns : s.retire.returns = s.returns := rfl
@[simp] theorem State.retire_calls : s.retire.calls = s.calls := rfl
@[simp] theorem State.retire_cmdIn : s.retire.cmdIn = s.cmdIn.tail := rfl
@[simp] theorem State.retire_schedule : s.retire.schedule = s.schedule := rfl
@[simp] theorem State.retire_turn : s.retire.turn = s.turn := rfl

@[simp] theorem State.takeTurn_pix : s.takeTurn.pix = s.pix := rfl
@[simp] theorem State.takeTurn_numLeds : s.takeTurn.numLeds = s.numLeds := rfl
@[simp] theorem State.takeTurn_phase : s.takeTurn.phase = s.phase := rfl
@[simp] theorem State.takeTurn_bc : s.takeTurn.bc = s.bc := rfl
@[simp] theorem State.takeTurn_cursor : s.takeTurn.cursor = s.cursor := rfl
@[simp] theorem State.takeTurn_tick : s.takeTurn.tick = s.tick := rfl
@[simp] theorem State.takeTurn_running : s.takeTurn.running = s.running := rfl
@[simp] theorem State.takeTurn_begun : s.takeTurn.begun = s.begun := rfl
@[simp] theorem State.takeTurn_endPending : s.takeTurn.endPending = s.endPending := rfl
@[simp] theorem State.takeTurn_result : s.takeTurn.result = s.result := rfl
@[simp] theorem State.takeTurn_rateReq : s.takeTurn.rateReq = s.rateReq := rfl
@[simp] theorem State.takeTurn_fault : s.takeTurn.fault = s.fault := rfl
@[simp] theorem State.takeTurn_txlog : s.takeTurn.txlog = s.txlog := rfl
@[simp] theorem State.takeTurn_returns : s.takeTurn.returns = s.returns := rfl
@[simp] theorem State.takeTurn_calls : s.takeTurn.calls = s.calls := rfl
@[simp] theorem State.takeTurn_cmdIn : s.takeTurn.cmdIn = s.cmdIn := rfl
@[simp] theorem State.takeTurn_schedule : s.takeTurn.schedule = s.schedule.tail := rfl
@[simp] theorem State.takeTurn_turn : s.takeTurn.turn = s.turn + 1 := rfl

@[simp] theorem State.constructed_pix (n : Word16) : (State.constructed n).pix = [] := rfl
@[simp] theorem State.constructed_numLeds (n : Word16) : (State.constructed n).numLeds = n := rfl
@[simp] theorem State.constructed_phase (n : Word16) : (State.constructed n).phase = .idle := rfl
@[simp] theorem State.constructed_bc (n : Word16) : (State.constructed n).bc = 0#8 := rfl
@[simp] theorem State.constructed_cursor (n : Word16) : (State.constructed n).cursor = 0#16 := rfl
@[simp] theorem State.constructed_tick (n : Word16) : (State.constructed n).tick = 0#5 := rfl
@[simp] theorem State.constructed_running (n : Word16) : (State.constructed n).running = false := rfl
@[simp] theorem State.constructed_begun (n : Word16) : (State.constructed n).begun = false := rfl
@[simp] theorem State.constructed_endPending (n : Word16) : (State.constructed n).endPending = false := rfl
@[simp] theorem State.constructed_result (n : Word16) : (State.constructed n).result = 0#16 := rfl
@[simp] theorem State.constructed_rateReq (n : Word16) : (State.constructed n).rateReq = 0#8 := rfl
@[simp] theorem State.constructed_fault (n : Word16) : (State.constructed n).fault = [] := rfl
@[simp] theorem State.constructed_txlog (n : Word16) : (State.constructed n).txlog = [] := rfl
@[simp] theorem State.constructed_returns (n : Word16) : (State.constructed n).returns = [] := rfl
@[simp] theorem State.constructed_calls (n : Word16) : (State.constructed n).calls = [] := rfl
@[simp] theorem State.constructed_cmdIn (n : Word16) : (State.constructed n).cmdIn = [] := rfl
@[simp] theorem State.constructed_schedule (n : Word16) : (State.constructed n).schedule = [] := rfl
@[simp] theorem State.constructed_turn (n : Word16) : (State.constructed n).turn = 0 := rfl

end Sys2Proof.Machine
end

