-- ==== Sys2Proof/Laws/Memory.lean ====
section
/-! SUPPORT. Laws/Memory.lean: the laws of the pixel buffer's storage: a read after a write, and that every operation
keeps the canonical form (`Memory.wf`) and the bounds of the buffer (`Memory.within`). -/

namespace Sys2Proof.Machine

/-! ### Bytes -/

theorem Memory.wfFrom_mono {lo lo' : Nat} (h : lo' ≤ lo) {m : Memory} (hm : Memory.wfFrom lo m = true) :
    Memory.wfFrom lo' m = true := by
  cases m with
  | nil => rfl
  | cons c m =>
    obtain ⟨a, b⟩ := c
    simp only [Memory.wfFrom, Bool.and_eq_true, decide_eq_true_eq] at hm ⊢
    exact ⟨⟨by omega, hm.1.2⟩, hm.2⟩

/-- An address below every listed one reads as unlisted. -/
theorem Memory.readByte_below {lo a : Nat} (h : a < lo) {m : Memory} (hm : Memory.wfFrom lo m = true) :
    m.readByte a = Memory.unlisted a := by
  induction m generalizing lo with
  | nil => rfl
  | cons c m ih =>
    obtain ⟨a', b⟩ := c
    simp only [Memory.wfFrom, Bool.and_eq_true, decide_eq_true_eq] at hm
    simp only [Memory.readByte]
    rw [if_neg (by omega)]
    exact ih (by omega) hm.2

theorem Memory.wfFrom_consCell {lo a : Nat} (b : Byte) {m : Memory} (h : lo ≤ a)
    (hm : Memory.wfFrom (a + 1) m = true) : Memory.wfFrom lo (Memory.consCell a b m) = true := by
  unfold Memory.consCell
  split
  · exact Memory.wfFrom_mono (by omega) hm
  · simp_all [Memory.wfFrom]

theorem Memory.readByte_consCell_same {a : Nat} (b : Byte) {m : Memory} (hm : Memory.wfFrom (a + 1) m = true) :
    (Memory.consCell a b m).readByte a = b := by
  unfold Memory.consCell
  split
  · rename_i h
    rw [Memory.readByte_below (by omega) hm, h]
  · simp [Memory.readByte]

theorem Memory.readByte_consCell_other {a x : Nat} (b : Byte) (m : Memory) (h : x ≠ a) :
    (Memory.consCell a b m).readByte x = m.readByte x := by
  unfold Memory.consCell
  split
  · rfl
  · simp [Memory.readByte, h]

theorem Memory.wfFrom_writeByte {lo a : Nat} (b : Byte) {m : Memory} (h : lo ≤ a) (hm : Memory.wfFrom lo m = true) :
    Memory.wfFrom lo (m.writeByte a b) = true := by
  induction m generalizing lo with
  | nil => exact Memory.wfFrom_consCell b h rfl
  | cons c m ih =>
    obtain ⟨a', b'⟩ := c
    have hm' := hm
    simp only [Memory.wfFrom, Bool.and_eq_true, decide_eq_true_eq] at hm'
    simp only [Memory.writeByte]
    split
    · refine Memory.wfFrom_consCell b h ?_
      simp only [Memory.wfFrom, Bool.and_eq_true, decide_eq_true_eq]
      exact ⟨⟨by omega, hm'.1.2⟩, hm'.2⟩
    · split
      · rename_i h1 h2
        subst h2
        exact Memory.wfFrom_consCell b h hm'.2
      · simp only [Memory.wfFrom, Bool.and_eq_true, decide_eq_true_eq]
        exact ⟨hm'.1, ih (by omega) hm'.2⟩

/-- Writing a byte keeps the canonical form. -/
theorem Memory.wf_writeByte (a : Nat) (b : Byte) {m : Memory} (hm : m.wf = true) : (m.writeByte a b).wf = true :=
  Memory.wfFrom_writeByte b (Nat.zero_le a) hm

theorem Memory.readByte_writeByte_from {lo a : Nat} (b : Byte) {m : Memory} (hm : Memory.wfFrom lo m = true) :
    (m.writeByte a b).readByte a = b := by
  induction m generalizing lo with
  | nil => exact Memory.readByte_consCell_same b rfl
  | cons c m ih =>
    obtain ⟨a', b'⟩ := c
    have hm' := hm
    simp only [Memory.wfFrom, Bool.and_eq_true, decide_eq_true_eq] at hm'
    simp only [Memory.writeByte]
    split
    · refine Memory.readByte_consCell_same b ?_
      simp only [Memory.wfFrom, Bool.and_eq_true, decide_eq_true_eq]
      exact ⟨⟨by omega, hm'.1.2⟩, hm'.2⟩
    · split
      · rename_i h1 h2
        subst h2
        exact Memory.readByte_consCell_same b hm'.2
      · rename_i h1 h2
        simp only [Memory.readByte, if_neg h2]
        exact ih hm'.2

/-- A byte read after a write to the same cell is the byte written. -/
theorem Memory.readByte_writeByte_same (a : Nat) (b : Byte) {m : Memory} (hm : m.wf = true) :
    (m.writeByte a b).readByte a = b :=
  Memory.readByte_writeByte_from b hm

/-- A write leaves every other cell alone. -/
theorem Memory.readByte_writeByte_other {a x : Nat} (b : Byte) (m : Memory) (h : x ≠ a) :
    (m.writeByte a b).readByte x = m.readByte x := by
  induction m with
  | nil => exact Memory.readByte_consCell_other b [] h
  | cons c m ih =>
    obtain ⟨a', b'⟩ := c
    simp only [Memory.writeByte]
    split
    · exact Memory.readByte_consCell_other b _ h
    · split
      · rename_i h1 h2
        subst h2
        rw [Memory.readByte_consCell_other b _ h]
        simp [Memory.readByte, h]
      · simp only [Memory.readByte, ih]

theorem Memory.within_writeByte {n a : Nat} (b : Byte) {m : Memory} (h : a < 2 * n) (hm : m.within n = true) :
    (m.writeByte a b).within n = true := by
  have hc : ∀ m : Memory, m.within n = true → (Memory.consCell a b m).within n = true := by
    intro m hm
    unfold Memory.consCell
    split
    · exact hm
    · simpa [Memory.within, h] using hm
  induction m with
  | nil => exact hc [] rfl
  | cons c m ih =>
    obtain ⟨a', b'⟩ := c
    have hm' := hm
    simp only [Memory.within, List.all_cons, Bool.and_eq_true] at hm'
    simp only [Memory.writeByte]
    split
    · exact hc _ hm
    · split
      · exact hc _ hm'.2
      · simp only [Memory.within, List.all_cons, Bool.and_eq_true]
        exact ⟨hm'.1, ih hm'.2⟩

/-! ### Words -/

/-- The two slices of the serializer put together are the word (20_memory.md R53). -/
theorem highByte_append_lowByte (w : Word16) : (highByte w ++ lowByte w : BitVec 16) = w := by
  ext i hi
  simp only [highByte, lowByte, BitVec.getElem_append, BitVec.getElem_extractLsb']
  split
  · simpa using BitVec.getLsbD_eq_getElem hi
  · rw [show 8 + (i - 8) = i by omega]
    exact BitVec.getLsbD_eq_getElem hi

/-- Writing a word keeps the canonical form. -/
theorem Memory.wf_writeWord (i : Nat) (w : Word16) {m : Memory} (hm : m.wf = true) : (m.writeWord i w).wf = true :=
  Memory.wf_writeByte _ _ (Memory.wf_writeByte _ _ hm)

/-- Writing a word of the buffer lists no cell outside it. -/
theorem Memory.within_writeWord {n i : Nat} (w : Word16) {m : Memory} (h : i < n) (hm : m.within n = true) :
    (m.writeWord i w).within n = true :=
  Memory.within_writeByte _ (by omega) (Memory.within_writeByte _ (by omega) hm)

/-- A byte outside the written word reads as before. -/
theorem Memory.readByte_writeWord_other {i a : Nat} (w : Word16) (m : Memory) (h : a ≠ 2 * i) (h' : a ≠ 2 * i + 1) :
    (m.writeWord i w).readByte a = m.readByte a := by
  unfold Memory.writeWord
  rw [Memory.readByte_writeByte_other _ _ h', Memory.readByte_writeByte_other _ _ h]

/-- A word read after a write to the same index is the word written. -/
theorem Memory.readWord_writeWord_same (i : Nat) (w : Word16) {m : Memory} (hm : m.wf = true) :
    (m.writeWord i w).readWord i = w := by
  unfold Memory.readWord Memory.writeWord
  rw [Memory.readByte_writeByte_other _ _ (by omega), Memory.readByte_writeByte_same _ _ hm,
    Memory.readByte_writeByte_same _ _ (Memory.wf_writeByte _ _ hm), highByte_append_lowByte]

/-- A write to one index leaves every other word alone. -/
theorem Memory.readWord_writeWord_other {i j : Nat} (w : Word16) (m : Memory) (h : j ≠ i) :
    (m.writeWord i w).readWord j = m.readWord j := by
  unfold Memory.readWord
  rw [Memory.readByte_writeWord_other _ _ (by omega) (by omega),
    Memory.readByte_writeWord_other _ _ (by omega) (by omega)]

/-- Words of a buffer with equal bytes are equal. -/
theorem Memory.readWord_congr {m m' : Memory} (h : ∀ a, m'.readByte a = m.readByte a) (i : Nat) :
    m'.readWord i = m.readWord i := by
  unfold Memory.readWord
  rw [h, h]

/-- An unlisted word is black (20_memory.md R52). -/
theorem Memory.readWord_nil (i : Nat) : Memory.readWord [] i = blackWord := by
  simp only [Memory.readWord, Memory.readByte, Memory.unlisted]
  rw [if_pos (by omega), if_neg (by omega)]
  rfl

/-! ### The clear of END -/

/-- The clear keeps the canonical form. -/
theorem Memory.wf_clearWords (n : Nat) {m : Memory} (hm : m.wf = true) : (Memory.clearWords n m).wf = true := by
  induction n with
  | zero => exact hm
  | succ n ih => exact Memory.wf_writeWord _ _ ih

/-- The clear of `k` words of an `n`-word buffer lists no cell outside it. -/
theorem Memory.within_clearWords {n k : Nat} (h : k ≤ n) {m : Memory} (hm : m.within n = true) :
    (Memory.clearWords k m).within n = true := by
  induction k with
  | zero => exact hm
  | succ k ih => exact Memory.within_writeWord _ (by omega) (ih (by omega))

/-- After the clear every word of the buffer is black. -/
theorem Memory.readWord_clearWords {n i : Nat} (h : i < n) {m : Memory} (hm : m.wf = true) :
    (Memory.clearWords n m).readWord i = blackWord := by
  induction n with
  | zero => omega
  | succ n ih =>
    simp only [Memory.clearWords]
    by_cases hi : i = n
    · subst hi
      exact Memory.readWord_writeWord_same _ _ (Memory.wf_clearWords _ hm)
    · rw [Memory.readWord_writeWord_other _ _ hi]
      exact ih (by omega)

/-- The clear leaves every byte outside the cleared words alone. -/
theorem Memory.readByte_clearWords_other {n a : Nat} (h : 2 * n ≤ a) (m : Memory) :
    (Memory.clearWords n m).readByte a = m.readByte a := by
  induction n with
  | zero => rfl
  | succ n ih =>
    simp only [Memory.clearWords]
    rw [Memory.readByte_writeWord_other _ _ (by omega) (by omega)]
    exact ih (by omega)

/-! ### The buffer of a state -/

/-- The pixel read after a write to it. -/
theorem State.pixel_memWrite_same (s : State) (index w : Word16) (h : s.pix.wf = true) :
    (s.memWrite index w).pixel index.toNat = w :=
  Memory.readWord_writeWord_same _ _ h

/-- Every other pixel reads as before a write. -/
theorem State.pixel_memWrite_other (s : State) {index : Word16} {j : Nat} (w : Word16) (h : j ≠ index.toNat) :
    (s.memWrite index w).pixel j = s.pixel j :=
  Memory.readWord_writeWord_other _ _ h

/-- Every pixel of a cleared buffer is black. -/
theorem State.pixel_clearBuffer (s : State) {i : Nat} (hi : i < s.numLeds.toNat) (h : s.pix.wf = true) :
    s.clearBuffer.pixel i = blackWord :=
  Memory.readWord_clearWords hi h

/-- A read of the buffer answers a word exactly inside it. -/
theorem State.memRead_eq_some {s : State} {index w : Word16} :
    s.memRead index = some w ↔ index.toNat < s.numLeds.toNat ∧ s.pixel index.toNat = w := by
  simp [State.memRead, State.inBuffer]

/-- A read of the buffer answers nothing exactly outside it. -/
theorem State.memRead_eq_none {s : State} {index : Word16} :
    s.memRead index = none ↔ s.numLeds.toNat ≤ index.toNat := by
  simp [State.memRead, State.inBuffer]

end Sys2Proof.Machine
end

