-- ==== Sys2Proof/Laws/Ops.lean ====
section
/-! SUPPORT. Laws/Ops.lean: what each shared operation, each meaning and the step can do, said once: if it answers a next
state, which one and when. -/

namespace Sys2Proof.Machine

/-! ### Conditions -/

theorem State.done_iff (s : State) : s.done = true ↔ s.phase = .done := by simp [State.done]

theorem State.inFlight_iff (s : State) : s.inFlight = true ↔ s.phase = .header ∨ s.phase = .data := by
  simp [State.inFlight]

theorem State.not_inFlight_iff (s : State) : s.inFlight = false ↔ s.phase = .idle ∨ s.phase = .done := by
  unfold State.inFlight
  cases s.phase <;> simp

theorem State.inBuffer_iff (s : State) (index : Word16) :
    s.inBuffer index = true ↔ index.toNat < s.numLeds.toNat := by
  simp [State.inBuffer]

theorem State.isQuiescent_iff (s : State) : s.isQuiescent = true ↔ s.fault ≠ [] := by
  simp [State.isQuiescent]

/-- The first fault recorded is recorded alone. -/
theorem addFault_nil (r : FaultRecord) : addFault [] r = [r] := rfl

/-- A fault recorded keeps those before it and adds at most one. -/
theorem addFault_cases (fs : List FaultRecord) (r : FaultRecord) : addFault fs r = fs ∨ addFault fs r = fs ++ [r] := by
  unfold addFault
  split
  · exact .inl rfl
  · exact .inr rfl

/-! ### The meanings -/

/-- What a TICK can do. -/
theorem execTick_cases {s t : State} (h : execTick s = .next t) :
    (s.running = false ∧ t = s.raiseFault (.tickWhileStopped s.phase)) ∨
      (s.running = true ∧
        ((s.phase = .idle ∧ t = tickIdle s) ∨ (s.phase = .header ∧ t = tickHeader s) ∨
          (s.phase = .data ∧ s.cursor.toNat < s.numLeds.toNat ∧ s.bc.getLsbD 0 = false ∧
            t = tickHigh s (s.pixel s.cursor.toNat)) ∨
          (s.phase = .data ∧ s.cursor.toNat < s.numLeds.toNat ∧ s.bc.getLsbD 0 = true ∧
            t = tickLow s (s.pixel s.cursor.toNat)) ∨
          (s.phase = .done ∧ t = tickDone s))) := by
  unfold execTick at h
  split at h
  · rename_i hr
    refine .inr ⟨hr, ?_⟩
    split at h
    · rename_i hp
      injection h with h
      exact .inl ⟨hp, h.symm⟩
    · rename_i hp
      injection h with h
      exact .inr (.inl ⟨hp, h.symm⟩)
    · rename_i hp
      unfold tickData at h
      split at h
      · simp at h
      · rename_i w hw
        obtain ⟨hlt, rfl⟩ := State.memRead_eq_some.mp hw
        split at h
        · rename_i hb
          injection h with h
          exact .inr (.inr (.inr (.inl ⟨hp, hlt, hb, h.symm⟩)))
        · rename_i hb
          injection h with h
          exact .inr (.inr (.inl ⟨hp, hlt, by simpa using hb, h.symm⟩))
    · rename_i hp
      injection h with h
      exact .inr (.inr (.inr (.inr ⟨hp, h.symm⟩)))
  · rename_i hr
    injection h with h
    exact .inl ⟨by simpa using hr, h.symm⟩

/-- What a SETCOLOR of either form can do. -/
theorem setColor_cases {i : Instr} {index w : Word16} {s t : State} (h : setColor i index w s = .next t) :
    (s.numLeds.toNat ≤ index.toNat ∧ t = s.retire) ∨
      (index.toNat < s.numLeds.toNat ∧ s.inFlight = true ∧ t = s.raiseFault (.midFrameWrite (encode i) s.phase)) ∨
      (index.toNat < s.numLeds.toNat ∧ s.inFlight = false ∧ t = (s.memWrite index w).retire) := by
  unfold setColor at h
  split at h
  · rename_i hb
    have hb := (s.inBuffer_iff index).mp hb
    split at h <;> rename_i hf <;> injection h with h
    · exact .inr (.inl ⟨hb, hf, h.symm⟩)
    · exact .inr (.inr ⟨hb, by simpa using hf, h.symm⟩)
  · rename_i hb
    injection h with h
    exact .inl ⟨by simpa [State.inBuffer] using hb, h.symm⟩

/-- What a GET can do. -/
theorem execGetPixel_cases {index : Word16} {s t : State} (h : execGetPixel index s = .next t) :
    (s.numLeds.toNat ≤ index.toNat ∧ t = s.raiseFault (.getOutOfRange index)) ∨
      (index.toNat < s.numLeds.toNat ∧ t = (s.giveResult (s.pixel index.toNat)).retire) := by
  unfold execGetPixel at h
  split at h <;> injection h with h
  · rename_i hw
    exact .inl ⟨State.memRead_eq_none.mp hw, h.symm⟩
  · rename_i w hw
    obtain ⟨hlt, rfl⟩ := State.memRead_eq_some.mp hw
    exact .inr ⟨hlt, h.symm⟩

/-- What a BEGIN can do. -/
theorem execBeginBlock_cases {s t : State} (h : execBeginBlock s = .next t) :
    (s.begun = true ∧ t = s.raiseFault .beginTwice) ∨
      (s.begun = false ∧ t = (((s.callPorts beginCalls).setRunning true).setBegun).retire) := by
  unfold execBeginBlock at h
  split at h <;> rename_i hb <;> injection h with h
  · exact .inl ⟨hb, h.symm⟩
  · exact .inr ⟨by simpa using hb, h.symm⟩

/-- What a FLUSH can do. -/
theorem execFlush_cases {s t : State} (h : execFlush s = .next t) :
    (s.phase = .done ∧ t = s.retire) ∨ (s.phase ≠ .done ∧ t = s) := by
  unfold execFlush at h
  split at h <;> rename_i hb <;> injection h with h
  · exact .inl ⟨s.done_iff.mp hb, h.symm⟩
  · exact .inr ⟨fun hp => hb (s.done_iff.mpr hp), h.symm⟩

/-- What an END can do: its first step, or its second while `end_pending = 1`. -/
theorem execEndBlock_cases {s t : State} (h : execEndBlock s = .next t) :
    (s.endPending = false ∧ s.inFlight = true ∧ t = s.raiseFault (.midFrameWrite (encode .endBlock) s.phase)) ∨
      (s.endPending = false ∧ s.inFlight = false ∧
        t = (((s.clearBuffer).setPhase .idle).setEndPending true).retire) ∨
      (s.endPending = true ∧ s.phase = .done ∧
        t = ((s.callPorts endCalls).setRunning false).setEndPending false) ∨
      (s.endPending = true ∧ s.phase ≠ .done ∧ t = s) := by
  unfold execEndBlock at h
  split at h
  · rename_i he
    unfold endSecond at h
    split at h <;> rename_i hb <;> injection h with h
    · exact .inr (.inr (.inl ⟨he, s.done_iff.mp hb, h.symm⟩))
    · exact .inr (.inr (.inr ⟨he, fun hp => hb (s.done_iff.mpr hp), h.symm⟩))
  · rename_i he
    unfold endFirst at h
    split at h <;> rename_i hb <;> injection h with h
    · exact .inl ⟨by simpa using he, hb, h.symm⟩
    · exact .inr (.inl ⟨by simpa using he, by simpa using hb, h.symm⟩)

/-- No instruction is refused. -/
theorem exec_not_refused (i : Instr) (s : State) (r : Refusal) : exec i s ≠ .refused r := by
  cases i <;>
    simp only [exec, execTick, tickData, execShowFrame, execFlush, execSetColorRgb, execSetColorRaw, setColor,
      execGetPixel, execPixelCount, execBeginBlock, execEndBlock, endFirst, endSecond, execSetRefreshRate] <;>
    repeat' (first | (intro h; cases h) | split)

/-! ### The step -/

/-- A quiescent state has no step. -/
theorem step_quiescent {s : State} (h : s.fault ≠ []) : step s = .fault .quiescent := by
  unfold step agentStep
  rw [if_pos (s.isQuiescent_iff.mpr h)]

/-- The agent that moves, in a state with no fault. -/
theorem step_of_nextAgent {s : State} (h : s.fault = []) :
    step s = match nextAgent s with
      | some .timer => timerStep s.takeTurn
      | some .foreground => foregroundStep s.takeTurn
      | none => .fault (stuckReason s) := by
  unfold step agentStep
  exact if_neg (fun hq => s.isQuiescent_iff.mp hq h)

/-- What the Foreground agent's step can do. -/
theorem foregroundStep_cases {s t : State} (h : foregroundStep s = .next t) :
    (s.endPending = true ∧ exec .endBlock s = .next t) ∨ (s.endPending = false ∧ s.cmdIn = [] ∧ t = s) ∨
      (∃ w rest i, s.endPending = false ∧ s.cmdIn = w :: rest ∧ decodeOn .cmdIn w = .ok i ∧ exec i s = .next t) ∨
      (∃ w rest e, s.endPending = false ∧ s.cmdIn = w :: rest ∧ decodeOn .cmdIn w = .error e ∧
        t = s.raiseFault (.illegalCommand w)) := by
  unfold foregroundStep at h
  split at h
  · rename_i he
    exact .inl ⟨he, h⟩
  · rename_i he
    have he : s.endPending = false := by simpa using he
    split at h
    · rename_i hc
      injection h with h
      exact .inr (.inl ⟨he, hc, h.symm⟩)
    · rename_i w rest hc
      unfold issueWord at h
      split at h
      · rename_i i hd
        exact .inr (.inr (.inl ⟨w, rest, i, he, hc, hd, h⟩))
      · rename_i e hd
        injection h with h
        exact .inr (.inr (.inr ⟨w, rest, e, he, hc, hd, h.symm⟩))

/-- What a step can do: a TICK of the Timer, an instruction of the Foreground, an `IllegalCommand`, or nothing. -/
theorem step_cases {s t : State} (h : step s = .next t) :
    s.fault = [] ∧
      ((nextAgent s = some .timer ∧ exec .tick s.takeTurn = .next t) ∨
        (nextAgent s = some .foreground ∧
          ((∃ i, i ≠ .tick ∧ exec i s.takeTurn = .next t) ∨
            (∃ w, t = s.takeTurn.raiseFault (.illegalCommand w)) ∨ t = s.takeTurn))) := by
  by_cases hf : s.fault = []
  · refine ⟨hf, ?_⟩
    rw [step_of_nextAgent hf] at h
    split at h
    · rename_i ha
      exact .inl ⟨ha, h⟩
    · rename_i ha
      refine .inr ⟨ha, ?_⟩
      rcases foregroundStep_cases h with ⟨-, hx⟩ | ⟨-, -, rfl⟩ | ⟨w, rest, i, -, -, hd, hx⟩ | ⟨w, rest, e, -, -, -, rfl⟩
      · exact .inl ⟨.endBlock, by simp, hx⟩
      · exact .inr (.inr rfl)
      · refine .inl ⟨i, ?_, hx⟩
        rintro rfl
        unfold decodeOn at hd
        split at hd
        · split at hd
          · rename_i hw
            injection hd with hd
            subst hd
            simp [Instr.wellFormedOn, Instr.port] at hw
          · simp at hd
        · simp at hd
      · exact .inr (.inl ⟨w, rfl⟩)
    · simp at h
  · rw [step_quiescent hf] at h
    simp at h

end Sys2Proof.Machine
end

