-- ==== Sys2Proof/Laws/PerInstr.lean ====
section
/-! SUPPORT. Laws/PerInstr.lean: what is said per instruction of the opcode map: the family `TableRow`, that an
instruction's word is of its own row of `opcode_table.json`. -/

namespace Sys2Proof.Laws.TableRow

/-- The word of the instruction has the row's pattern under the row's mask (30_encoding.md R76, R86). -/
def Statement (i : Instr) : Prop := i.row.covers (encode i) = true

/-- A word under a mask, field by field. -/
theorem wordOf_and (f m : CommandFields) :
    wordOf f &&& wordOf m = wordOf ⟨f.op &&& m.op, f.z0 &&& m.z0, f.index &&& m.index, f.data &&& m.data⟩ := by
  have h1 : (f.op ++ f.z0) &&& (m.op ++ m.z0) = (f.op &&& m.op) ++ (f.z0 &&& m.z0) := BitVec.and_append
  have h2 : (f.op ++ f.z0 ++ f.index) &&& (m.op ++ m.z0 ++ m.index) =
      (f.op &&& m.op) ++ (f.z0 &&& m.z0) ++ (f.index &&& m.index) := by
    rw [← h1]
    exact BitVec.and_append
  have h3 : (f.op ++ f.z0 ++ f.index ++ f.data) &&& (m.op ++ m.z0 ++ m.index ++ m.data) =
      (f.op &&& m.op) ++ (f.z0 &&& m.z0) ++ (f.index &&& m.index) ++ (f.data &&& m.data) := by
    rw [← h2]
    exact BitVec.and_append
  exact h3

/-- A word is of a row when each of its fields is the pattern's under the mask's. -/
theorem covers_of_fields {r : OpcodeRow} {i : Instr} (m p : CommandFields) (hm : r.mask = wordOf m)
    (hp : r.pattern = wordOf p) (hop : (encodeFields i).op &&& m.op = p.op) (hz : (encodeFields i).z0 &&& m.z0 = p.z0)
    (hi : (encodeFields i).index &&& m.index = p.index) (hd : (encodeFields i).data &&& m.data = p.data) :
    r.covers (encode i) = true := by
  unfold OpcodeRow.covers encode
  rw [hm, hp, wordOf_and, hop, hz, hi, hd]
  exact beq_self_eq_true _

/-- Two data fields whose halves have no bit in common have none in common. -/
theorem append_and_eq_zero {n k : Nat} {x y : BitVec n} {u v : BitVec k} (h : x &&& y = 0#n) (h' : u &&& v = 0#k) :
    (x ++ u) &&& (y ++ v) = 0#(n + k) := by
  rw [BitVec.and_append, h, h']
  exact BitVec.zero_append_zero

theorem tick : Statement .tick := by unfold Statement; decide

theorem showFrame : Statement .showFrame := by unfold Statement; decide

theorem flush : Statement .flush := by unfold Statement; decide

theorem setColorRgb (index : Word16) (r g b : Byte) : Statement (.setColorRgb index r g b) :=
  covers_of_fields ⟨0xFF, 0xFF, 0, (0xFF#8 ++ 0#8 ++ 0#8 ++ 0#8 : BitVec 32)⟩ ⟨0x20, 0, 0, 0⟩ rfl rfl
    (by simp only [encodeFields]; decide) (by simp only [encodeFields]; decide) BitVec.and_zero
    (append_and_eq_zero (append_and_eq_zero (append_and_eq_zero (by decide) BitVec.and_zero) BitVec.and_zero)
      BitVec.and_zero)

theorem setColorRaw (index word : Word16) : Statement (.setColorRaw index word) :=
  covers_of_fields ⟨0xFF, 0xFF, 0, (0xFFFF#16 ++ 0#16 : BitVec 32)⟩ ⟨0x21, 0, 0, 0⟩ rfl rfl
    (by simp only [encodeFields]; decide) (by simp only [encodeFields]; decide) BitVec.and_zero (append_and_eq_zero (by decide) BitVec.and_zero)

theorem getPixel (index : Word16) : Statement (.getPixel index) :=
  covers_of_fields ⟨0xFF, 0xFF, 0, 0xFFFFFFFF⟩ ⟨0x22, 0, 0, 0⟩ rfl rfl
    (by simp only [encodeFields]; decide) (by simp only [encodeFields]; decide) BitVec.and_zero (by simp only [encodeFields]; decide)

theorem pixelCount : Statement .pixelCount := by unfold Statement; decide

theorem beginBlock : Statement .beginBlock := by unfold Statement; decide

theorem endBlock : Statement .endBlock := by unfold Statement; decide

theorem setRefreshRate (pct : Byte) : Statement (.setRefreshRate pct) :=
  covers_of_fields ⟨0xFF, 0xFF, 0xFFFF, (0xFFFFFF#24 ++ 0#8 : BitVec 32)⟩ ⟨0x32, 0, 0, 0⟩ rfl rfl
    (by simp only [encodeFields]; decide) (by simp only [encodeFields]; decide)
    (by simp only [encodeFields]; decide) (append_and_eq_zero (by decide) BitVec.and_zero)

end Sys2Proof.Laws.TableRow
end

