-- ==== Sys2Proof/Laws/Pixel.lean ====
section
/-! SUPPORT. Laws/Pixel.lean: the pixel word's operations as numbers (30_encoding.md R80; 40_pixel_buffer.md R102;
20_memory.md R53). -/

namespace Sys2Proof.Machine

theorem channel5_toNat (c : Byte) : (channel5 c).toNat = c.toNat % 32 := by
  have h := c.isLt
  simp only [channel5, BitVec.truncate_eq_setWidth, BitVec.toNat_setWidth, BitVec.toNat_and]
  rw [show BitVec.toNat 0x1F#8 = 2 ^ 5 - 1 by decide, Nat.and_two_pow_sub_one_eq_mod]
  omega

theorem pack_toNat (r g b : Byte) :
    (pack r g b).toNat = 32768 + g.toNat % 32 * 1024 + b.toNat % 32 * 32 + r.toNat % 32 := by
  have hr : r.toNat % 32 < 2 ^ 5 := Nat.mod_lt _ (by decide)
  have hb : b.toNat % 32 < 2 ^ 5 := Nat.mod_lt _ (by decide)
  have hg : g.toNat % 32 < 2 ^ 5 := Nat.mod_lt _ (by decide)
  simp only [pack, BitVec.toNat_or, BitVec.toNat_shiftLeft, channel5_toNat]
  rw [show BitVec.toNat 0x8000#16 = 1 <<< 15 by decide,
    Nat.mod_eq_of_lt (a := (g.toNat % 32) <<< 10) (by rw [Nat.shiftLeft_eq]; omega),
    Nat.mod_eq_of_lt (a := (b.toNat % 32) <<< 5) (by rw [Nat.shiftLeft_eq]; omega), Nat.or_assoc, Nat.or_assoc,
    ← Nat.shiftLeft_add_eq_or_of_lt hr, ← Nat.shiftLeft_add_eq_or_of_lt (i := 10) (by rw [Nat.shiftLeft_eq]; omega),
    ← Nat.shiftLeft_add_eq_or_of_lt (i := 15) (by rw [Nat.shiftLeft_eq, Nat.shiftLeft_eq]; omega)]
  simp only [Nat.shiftLeft_eq]
  omega

theorem highByte_toNat (w : Word16) : (highByte w).toNat = w.toNat / 256 := by
  have h := w.isLt
  rw [highByte, BitVec.extractLsb'_toNat, Nat.shiftRight_eq_div_pow]
  omega

theorem lowByte_toNat (w : Word16) : (lowByte w).toNat = w.toNat % 256 := by
  rw [lowByte, BitVec.extractLsb'_toNat, Nat.shiftRight_eq_div_pow]
  omega

/-- A pixel word has its marker exactly when it is at least 0x8000 (R79). -/
theorem markerOf_iff (w : Word16) : markerOf w = true ↔ 32768 ≤ w.toNat := by
  have h := w.isLt
  have hb := Nat.testBit_eq_decide_div_mod_eq (x := w.toNat) (i := 15)
  unfold markerOf BitVec.getLsbD
  rw [hb, decide_eq_true_eq]
  omega

/-- A raw word with the marker forced on keeps its other 15 bits (40_pixel_buffer.md R102). -/
theorem markRaw_toNat (word : Word16) : (markRaw word).toNat = 32768 + word.toNat % 32768 := by
  have h := word.isLt
  have h2 : word.toNat % 32768 < 2 ^ 15 := Nat.mod_lt _ (by decide)
  have hw : word.toNat ||| 1 <<< 15 = 1 <<< 15 ||| word.toNat % 32768 := by
    apply Nat.eq_of_testBit_eq
    intro i
    rw [show 32768 = 2 ^ 15 by decide, Nat.testBit_or, Nat.testBit_or, Nat.testBit_mod_two_pow, Nat.testBit_shiftLeft]
    by_cases hi : i < 15
    · simp [hi, show ¬ 15 ≤ i by omega]
    · by_cases hi' : i = 15
      · simp [hi']
      · have : word.toNat.testBit i = false :=
          Nat.testBit_lt_two_pow (Nat.lt_of_lt_of_le h (Nat.pow_le_pow_right (by decide) (by omega)))
        simp [this, hi]
  rw [markRaw, BitVec.toNat_or, show BitVec.toNat 0x8000#16 = 1 <<< 15 by decide, hw,
    ← Nat.shiftLeft_add_eq_or_of_lt h2, Nat.shiftLeft_eq]

end Sys2Proof.Machine
end

