-- ==== Sys2Proof/Tests/Slice0.lean ====
section
/-! SUPPORT. Tests/Slice0.lean: our own tests, their expected results from 30_encoding.md R86, 95_test_vectors.md or by
hand from the rule they cite, and for every obligation with hypotheses the states and operands that meet them. -/

namespace Sys2Proof.Tests

open Sys2Proof.Machine

/-! ### Small states -/

/-- The next state of an outcome, if it is one. -/
def after (o : Host.Outcome State Fault Refusal) : Option State :=
  match o with
  | .next t => some t
  | .fault _ => none
  | .refused _ => none

/-- A running block of `n` LEDs: storage, then `(phase, tick, bc, cursor)` as 95_test_vectors.md writes it. -/
def block (n : Word16) (m : Memory) (p : Phase) (tick : BitVec 5) (bc : Byte) (cursor : Word16) : State :=
  { State.constructed n with
    pix := m, phase := p, tick := tick, bc := bc, cursor := cursor, running := true, begun := true }

/-- N = 2, `pix = [0x801F, 0x9234]` (95_test_vectors.md 2.3). -/
def two (p : Phase) (tick : BitVec 5) (bc : Byte) (cursor : Word16) : State :=
  block 2 [(1, 0x1F), (2, 0x92), (3, 0x34)] p tick bc cursor

/-- N = 1, the reset pixel, running. -/
def one (p : Phase) (tick : BitVec 5) (bc : Byte) (cursor : Word16) : State := block 1 [] p tick bc cursor

/-- The sequencer's registers and the bytes emitted. -/
structure SeqView where
  phase : Phase
  tick : BitVec 5
  bc : Byte
  cursor : Word16
  txlog : List Byte
  deriving DecidableEq, Repr

/-- The sequencer's registers and the bytes emitted, after an outcome. -/
def seqOf (o : Host.Outcome State Fault Refusal) : Option SeqView :=
  (after o).map fun t => ⟨t.phase, t.tick, t.bc, t.cursor, t.txlog⟩

/-- The recorded faults after an outcome. -/
def faultsOf (o : Host.Outcome State Fault Refusal) : Option (List FaultRecord) := (after o).map State.fault

/-- The first two pixels and the recorded faults after an outcome. -/
def pixelsOf (o : Host.Outcome State Fault Refusal) : Option (Word16 × Word16 × List FaultRecord) :=
  (after o).map fun t => (t.pixel 0, t.pixel 1, t.fault)

/-! ### WellFormed refuses -/

/-- R78: TICK is not for `cmd_in`. -/
theorem test_illformed_tick_on_cmd_in : Instr.wellFormedOn .cmdIn .tick = false := by decide

/-- R78: a Foreground command is not for `tick_in`. -/
theorem test_illformed_show_on_tick_in : Instr.wellFormedOn .tickIn .showFrame = false := by decide

/-- R84: an index above 65535. -/
theorem test_illformed_rgb_index : AsmLine.wellFormed (.setColorRgb 65536 0 0 0) = false := by decide

/-- R84: a red channel above 255. -/
theorem test_illformed_rgb_red : AsmLine.wellFormed (.setColorRgb 0 256 0 0) = false := by decide

/-- R84: a green channel above 255. -/
theorem test_illformed_rgb_green : AsmLine.wellFormed (.setColorRgb 0 0 256 0) = false := by decide

/-- R84: a blue channel above 255. -/
theorem test_illformed_rgb_blue : AsmLine.wellFormed (.setColorRgb 0 0 0 256) = false := by decide

/-- R84: SETCOLOR.RAW's index above 65535. -/
theorem test_illformed_raw_index : AsmLine.wellFormed (.setColorRaw 65536 0) = false := by decide

/-- R84: SETCOLOR.RAW's word above 65535. -/
theorem test_illformed_raw_word : AsmLine.wellFormed (.setColorRaw 0 65536) = false := by decide

/-- R84: GET's index above 65535. -/
theorem test_illformed_get_index : AsmLine.wellFormed (.getPixel 65536) = false := by decide

/-- R84: SETREFRESHRATE's percentage above 255. -/
theorem test_illformed_rate : AsmLine.wellFormed (.setRefreshRate 256) = false := by decide

/-- R84: the largest operands are in range. -/
theorem test_wellformed_largest :
    AsmLine.wellFormed (.setColorRgb 65535 255 255 255) = true ∧ AsmLine.wellFormed (.setColorRaw 65535 65535) = true ∧
      AsmLine.wellFormed (.getPixel 65535) = true ∧ AsmLine.wellFormed (.setRefreshRate 255) = true := by decide

/-! ### Decoding: the words of R86 and of 95_test_vectors.md 2.1 -/

/-- `op` 0x01. -/
theorem test_decode_tick :
    decode 0b0000000100000000000000000000000000000000000000000000000000000000 = .ok .tick := by decide

/-- `op` 0x10. -/
theorem test_decode_show :
    decode 0b0001000000000000000000000000000000000000000000000000000000000000 = .ok .showFrame := by decide

/-- `op` 0x11. -/
theorem test_decode_flush :
    decode 0b0001000100000000000000000000000000000000000000000000000000000000 = .ok .flush := by decide

/-- `op` 0x20, index 2, data 00 1F 02 05. -/
theorem test_decode_rgb :
    decode 0b0010000000000000000000000000001000000000000111110000001000000101 = .ok (.setColorRgb 2 31 2 5) := by decide

/-- 2.1: the largest operands. -/
theorem test_decode_rgb_largest : decode 0x2000FFFF00FFFFFF = .ok (.setColorRgb 0xFFFF 255 255 255) := by decide

/-- `op` 0x21, index 1, data 00 00 12 34. -/
theorem test_decode_raw :
    decode 0b0010000100000000000000000000000100000000000000000001001000110100 = .ok (.setColorRaw 1 0x1234) := by decide

/-- `op` 0x22, index 5. -/
theorem test_decode_get :
    decode 0b0010001000000000000000000000010100000000000000000000000000000000 = .ok (.getPixel 5) := by decide

/-- `op` 0x23. -/
theorem test_decode_pixelcount :
    decode 0b0010001100000000000000000000000000000000000000000000000000000000 = .ok .pixelCount := by decide

/-- `op` 0x30. -/
theorem test_decode_begin :
    decode 0b0011000000000000000000000000000000000000000000000000000000000000 = .ok .beginBlock := by decide

/-- `op` 0x31. -/
theorem test_decode_end :
    decode 0b0011000100000000000000000000000000000000000000000000000000000000 = .ok .endBlock := by decide

/-- `op` 0x32, pct 100. -/
theorem test_decode_rate :
    decode 0b0011001000000000000000000000000000000000000000000000000001100100 = .ok (.setRefreshRate 100) := by decide

/-- 2.1: words with a reserved `op`. -/
theorem test_decode_reserved_op :
    decode 0x0000000000000000 = .error (.reservedOpcode 0) ∧ decode 0xFF00000000000000 = .error (.reservedOpcode 0xFF) := by
  decide

/-- 2.1: words with a reserved bit set, one for each reserved field. -/
theorem test_decode_reserved_bits :
    decode 0x1000000000000001 = .error (.reservedBits 0x10) ∧ decode 0x2000000001000000 = .error (.reservedBits 0x20) ∧
      decode 0x2001000000000000 = .error (.reservedBits 0x20) ∧ decode 0x2100000000011234 = .error (.reservedBits 0x21) ∧
      decode 0x2200000500000001 = .error (.reservedBits 0x22) ∧ decode 0x3200000100000064 = .error (.reservedBits 0x32) := by
  decide

/-- 2.1: the TICK word on each port. -/
theorem test_decode_tick_ports :
    decodeOn .tickIn 0x0100000000000000 = .ok .tick ∧
      decodeOn .cmdIn 0x0100000000000000 = .error (.wrongPort .cmdIn) ∧
      decodeOn .tickIn 0x1000000000000000 = .error (.wrongPort .tickIn) := by decide

/-- R86: the encoder on the words of the programs P1 and P2 (95_test_vectors.md 3). -/
theorem test_encode_words :
    encode (.setColorRgb 0 31 0 0) = 0x20000000001F0000 ∧ encode (.setColorRaw 1 0x1234) = 0x2100000100001234 ∧
      encode (.setColorRgb 1 0 0 31) = 0x200000010000001F ∧ encode (.getPixel 1) = 0x2200000100000000 ∧
      encode (.setRefreshRate 50) = 0x3200000000000032 := by decide

/-- The table's numbering: the whole word is one 64-bit numeral; no instruction is longer. -/
theorem test_table_word :
    decodeTableWord 64 0x2200000500000000 = some (.getPixel 5) ∧ decodeTableWord 64 0xFF00000000000000 = none ∧
      decodeTableWord 72 0x0100000000000000 = none := by decide

/-- R76: one word of each row is covered by that row of the table alone. -/
theorem test_rows_are_disjoint :
    (opcodeTable.map OpcodeRow.pattern).map (fun w => (opcodeTable.filter fun r => r.covers w).length) =
      [1, 1, 1, 1, 1, 1, 1, 1, 1, 1] := by decide

/-- R84: a line with decimal and 0x operands, blanks and a comment. -/
theorem test_assemble_text_rgb :
    assembleText ['S', 'E', 'T', 'C', 'O', 'L', 'O', 'R', '.', 'R', 'G', 'B', ' ', '2', ',', ' ', '3', '1', ',', '0', ',',
      '0', 'x', '5', ' ', ';', 'x'] = some 0x20000002001F0005 := by decide

/-- R84, R85: `LENGTH` assembles to PIXELCOUNT's word, and `GET 65536` is refused. -/
theorem test_assemble_text_length :
    assembleText ['L', 'E', 'N', 'G', 'T', 'H'] = some 0x2300000000000000 ∧
      assembleText ['G', 'E', 'T', ' ', '6', '5', '5', '3', '6'] = none := by decide

/-! ### Reset -/

/-- R52, R231: reset memory is canonical and every word reads 0x8000. -/
theorem test_reset_memory : State.reset.pix.wf = true ∧ State.reset.pixel 0 = 0x8000 ∧ State.reset.pixel 2 = 0x8000 := by
  decide

/-- R230: the lengths at the edges. -/
theorem test_construct_bounds :
    (after (construct 0)).isNone = true ∧ (after (construct 1)).isSome = true ∧
      (after (construct 65535)).isSome = true ∧ (after (construct 65536)).isNone = true := by decide

/-- From reset with nothing placed there is no event (R226; log 10). -/
theorem test_step_at_reset : step State.reset = .fault .noEvent := by rfl

/-- The placed words run as the next step: TICK while stopped (R204), GET 0, an IllegalCommand word (R203). -/
theorem test_placed_words_run :
    faultsOf (step (State.reset.withFetchWord 64 0x0100000000000000)) = some [.tickWhileStopped .idle] ∧
      (after (step (State.reset.withFetchWord 64 0x2200000000000000))).map State.result = some 0x8000 ∧
      faultsOf (step (State.reset.withFetchWord 64 0)) = some [.illegalCommand 0] := by decide

/-! ### Memory -/

/-- Writing what an unlisted cell reads as removes the cell. -/
theorem test_write_keeps_canonical_form :
    Memory.writeWord [] 1 0x9234 = [(2, 0x92), (3, 0x34)] ∧ Memory.writeWord [(2, 0x92), (3, 0x34)] 1 0x8000 = [] := by
  decide

/-! ### One step of each instruction -/

/-- 2.2: `pack`. -/
theorem test_pack :
    pack 0 31 0 = 0xFC00 ∧ pack 0 0 31 = 0x83E0 ∧ pack 32 0 0 = 0x8000 ∧ pack 0x21 0x42 0x84 = 0x8881 ∧
      pack 16 8 4 = 0xA090 := by decide

/-- 2.3: the rows of TICK that change the phase, and the wrap in DONE. -/
theorem test_tick_phase_changes :
    seqOf (exec .tick (two .idle 31 5 2)) = some ⟨.header, 0, 0, 0, [0x00]⟩ ∧
      seqOf (exec .tick (two .header 3 3 0)) = some ⟨.data, 4, 0, 0, [0x00]⟩ ∧
      seqOf (exec .tick (two .data 7 3 1)) = some ⟨.done, 8, 4, 2, [0x34]⟩ ∧
      seqOf (exec .tick (two .done 31 4 2)) = some ⟨.done, 0, 4, 2, [0x00]⟩ := by decide

/-- 2.3: `bc` wraps with N = 200, and the high byte after the wrap. -/
theorem test_tick_bc_wraps :
    seqOf (exec .tick (block 200 [(255, 0x01)] .data 3 255 127)) = some ⟨.data, 4, 0, 128, [0x01]⟩ ∧
      seqOf (exec .tick (block 200 [(256, 0xC0)] .data 4 0 128)) = some ⟨.data, 5, 1, 128, [0xC0]⟩ := by decide

/-- 2.3: SHOW in DATA cuts the frame and writes the phase alone. -/
theorem test_show_in_data : seqOf (exec .showFrame (two .data 7 3 1)) = some ⟨.idle, 7, 3, 1, []⟩ := by decide

/-- 2.4: FLUSH holds in IDLE and completes in DONE. -/
theorem test_flush :
    (after (exec .flush { two .idle 0 0 0 with cmdIn := [encode .flush] })).map State.cmdIn = some [encode .flush] ∧
      (after (exec .flush { two .done 8 4 2 with cmdIn := [encode .flush] })).map State.cmdIn = some [] := by decide

/-- 2.2: SETCOLOR.RGB in range, and at index N. -/
theorem test_rgb_bounds :
    pixelsOf (exec (.setColorRgb 1 1 2 3) (two .idle 0 0 0)) = some (0x801F, 0x8861, []) ∧
      pixelsOf (exec (.setColorRgb 2 1 2 3) (two .idle 0 0 0)) = some (0x801F, 0x9234, []) := by decide

/-- 2.2: SETCOLOR.RGB in HEADER faults and writes nothing. -/
theorem test_rgb_in_header :
    pixelsOf (exec (.setColorRgb 0 1 2 3) (two .header 1 1 0)) =
      some (0x801F, 0x9234, [.midFrameWrite 0x2000000000010203 .header]) := by decide

/-- 2.2: SETCOLOR.RAW forces the marker. -/
theorem test_raw_marker :
    pixelsOf (exec (.setColorRaw 0 0x1234) (two .done 8 4 2)) = some (0x9234, 0x9234, []) := by decide

/-- 2.2: SETCOLOR.RAW in DATA: the bound is checked before the phase. -/
theorem test_raw_in_data :
    pixelsOf (exec (.setColorRaw 1 0) (two .data 7 3 1)) =
        some (0x801F, 0x9234, [.midFrameWrite 0x2100000100000000 .data]) ∧
      pixelsOf (exec (.setColorRaw 2 0) (two .data 7 3 1)) = some (0x801F, 0x9234, []) := by decide

/-- 2.2: GET in DATA, and outside the buffer. -/
theorem test_get :
    (after (exec (.getPixel 1) (two .data 7 3 1))).map State.returns = some [0x9234] ∧
      faultsOf (exec (.getPixel 2) (two .data 7 3 1)) = some [.getOutOfRange 2] := by decide

/-- 2.2: PIXELCOUNT with N = 3. -/
theorem test_pixelcount : (after (exec .pixelCount State.reset)).map State.result = some 3 := by decide

/-- 2.4: BEGIN at reset. -/
theorem test_begin :
    (after (exec .beginBlock State.reset)).map (fun t => (t.running, t.begun, t.phase, t.tick)) =
      some (true, true, .idle, 0) := by decide

/-- 2.4: a second BEGIN. -/
theorem test_begin_twice : faultsOf (exec .beginBlock (two .idle 0 0 0)) = some [.beginTwice] := by decide

/-- 2.4: END's first step in DONE, and in DATA. -/
theorem test_end_first_step :
    (after (exec .endBlock (two .done 8 4 2))).map (fun t => (t.pix, t.phase, t.endPending, t.tick)) =
        some ([], .idle, true, 8) ∧
      pixelsOf (exec .endBlock (two .data 7 3 1)) =
        some (0x801F, 0x9234, [.midFrameWrite 0x3100000000000000 .data]) := by decide

/-- 2.4: END's second step holds in IDLE and stops the timer in DONE. -/
theorem test_end_second_step :
    (after (exec .endBlock { two .idle 8 4 2 with endPending := true })).map (fun t => (t.running, t.endPending)) =
        some (true, true) ∧
      (after (exec .endBlock { two .done 8 4 2 with endPending := true })).map
          (fun t => (t.running, t.endPending, t.phase)) = some (false, false, .done) := by decide

/-- 2.4: SETREFRESHRATE 50. -/
theorem test_rate : (after (exec (.setRefreshRate 50) State.reset)).map State.rateReq = some 0x32 := by decide

/-! ### What meets the hypotheses of the obligations -/

/-- The Foreground's next word is `w` and the Foreground moves next. -/
def presents (w : CommandWord) (s : State) : State := { s with cmdIn := [w], schedule := [.foreground] }

/-- For both clauses: a word that decodes, and words with a reserved `op` at the two ends. -/
theorem test_witness_ReservedOpcodesSpellNothing :
    encode (.getPixel 5) = 0x2200000500000000 ∧
      (fieldsOf 0).op ∉ [0x01#8, 0x10#8, 0x11#8, 0x20#8, 0x21#8, 0x22#8, 0x23#8, 0x30#8, 0x31#8, 0x32#8] ∧
      (fieldsOf 0xFFFFFFFFFFFFFFFF).op ∉
        [0x01#8, 0x10#8, 0x11#8, 0x20#8, 0x21#8, 0x22#8, 0x23#8, 0x30#8, 0x31#8, 0x32#8] := by decide

/-- The first and the last bit of the range. -/
theorem test_witness_WireSendsBitFifteenFirst :
    0 < 16 ∧ (wireBits (wordBytes 0x8001))[0]? = some true ∧ 15 < 16 ∧ (wireBits (wordBytes 0x8001))[15]? = some true := by
  decide

/-- Both branches of the range checks. -/
theorem test_witness_AssemblerRefusesOutOfRange :
    assemble (.setColorRaw 65535 65535) = some 0x2100FFFF0000FFFF ∧ assemble (.setColorRaw 65535 65536) = none ∧
      assemble (.setRefreshRate 255) = some 0x32000000000000FF ∧ assemble (.setRefreshRate 256) = none ∧
      assemble (.getPixel 65535) = some 0x2200FFFF00000000 ∧ assemble (.getPixel 65536) = none ∧
      assemble (.setColorRgb 65535 255 255 255) = some 0x2000FFFF00FFFFFF ∧ assemble (.setColorRgb 0 0 256 0) = none := by
  decide

/-- Lengths at the edges of both clauses, with the first and the last pixel. -/
theorem test_witness_ConstructionGivesResetValues :
    (1 ≤ 1 ∧ 1 ≤ 65535 ∧ 0 < 1) ∧ (1 ≤ 65535 ∧ 65535 ≤ 65535 ∧ 65534 < 65535) ∧ ¬(1 ≤ 0 ∧ 0 ≤ 65535) ∧
      ¬(1 ≤ 65536 ∧ 65536 ≤ 65535) := by decide

/-- A construction. -/
theorem test_witness_InvHoldsAfterConstruction : construct 1 = .next (State.constructed 1) := by rfl

/-- SHOW presented after a frame. -/
theorem test_witness_StepRunsDecodedCommand :
    (presents 0x1000000000000000 (two .done 8 4 2)).fault = [] ∧
      (presents 0x1000000000000000 (two .done 8 4 2)).endPending = false ∧
      nextAgent (presents 0x1000000000000000 (two .done 8 4 2)) = some .foreground ∧
      (presents 0x1000000000000000 (two .done 8 4 2)).cmdIn = 0x1000000000000000 :: [] ∧
      decode 0x1000000000000000 = .ok .showFrame ∧ Instr.wellFormedOn .cmdIn .showFrame = true := by decide

/-- A state for each of the three clauses. -/
theorem test_witness_StepRunsTimerAndWaitingEnd :
    ((two .idle 0 0 0).fault = [] ∧ nextAgent (two .idle 0 0 0) = some .timer) ∧
      nextAgent { two .done 8 4 2 with schedule := [.foreground], endPending := true } = some .foreground ∧
      nextAgent { two .done 8 4 2 with schedule := [.foreground] } = some .foreground ∧
      (two .done 8 4 2).endPending = false ∧ (two .done 8 4 2).cmdIn = [] := by decide

/-- The all-zero word, which is no instruction's. -/
theorem test_witness_IllegalWordsRaiseIllegalCommand :
    ((presents 0 (two .idle 0 0 0)).fault = [] ∧ (presents 0 (two .idle 0 0 0)).endPending = false ∧
      nextAgent (presents 0 (two .idle 0 0 0)) = some .foreground ∧ (presents 0 (two .idle 0 0 0)).cmdIn = 0 :: []) ∧
      ∀ i : Instr, i ≠ .tick → encode i ≠ 0 := by
  refine ⟨by decide, fun i _ h => ?_⟩
  have hop : (encodeFields i).op = (fieldsOf (0 : CommandWord)).op := by
    rw [← h]
    exact (congrArg CommandFields.op (fieldsOf_wordOf (encodeFields i))).symm
  cases i <;> simp [encodeFields, fieldsOf] at hop

/-- The timer's TICK while stopped, and the Foreground's TICK word. -/
theorem test_witness_TickComesOnlyFromTheTimer :
    decodeOn .tickIn 0x0100000000000000 = .ok .tick ∧
      (nextAgent { State.reset with schedule := [.timer] } = some .timer ∧ State.reset.running = false ∧
        State.reset.fault = []) ∧
      nextAgent (presents 0x0100000000000000 State.reset) = some .foreground ∧
      (presents 0x0100000000000000 State.reset).endPending = false ∧
      (presents 0x0100000000000000 State.reset).cmdIn = 0x0100000000000000 :: [] := by decide

/-- A state with a fault, and a step that records one. -/
theorem test_witness_FaultsAreStickyAndQuiescent :
    { State.reset with fault := [.beginTwice] }.fault ≠ [] ∧
      ∃ t, step (presents 0 State.reset) = .next t ∧ t.fault ≠ (presents 0 State.reset).fault :=
  ⟨by decide, _, rfl, by decide⟩

/-- The four cases of the agents with nothing scheduled. -/
theorem test_witness_OnlyEnabledAgentsMove :
    nextAgent (two .idle 0 0 0) = some .timer ∧
      nextAgent { State.reset with cmdIn := [encode .beginBlock] } = some .foreground ∧
      { two .idle 0 0 0 with cmdIn := [encode .showFrame] }.running = true ∧
      { two .idle 0 0 0 with cmdIn := [encode .showFrame] }.foregroundEnabled = true ∧
      nextAgent State.reset = none ∧ State.reset.schedule = [] := by decide

/-- The invariant at N = 1 in every phase, as 95_test_vectors.md 2.3 has its states. -/
theorem inv_one :
    BlockInv (one .idle 0 0 0) ∧ BlockInv (one .header 3 3 0) ∧ BlockInv (one .data 5 1 0) ∧
      BlockInv (one .done 6 2 1) := by
  refine ⟨?_, ?_, ?_, ?_⟩ <;> (unfold BlockInv BufferInv SpecInv MarkersSet CountInv RecordInv; decide)

/-- A state of the invariant in each of the three cases. -/
theorem test_witness_StepsExistUnlessStuck :
    BlockInv (one .idle 0 0 0) ∧ BlockInv { one .idle 0 0 0 with fault := [.beginTwice] } ∧ BlockInv State.reset ∧
      step State.reset = .fault .noEvent ∧
      step { State.reset with cmdIn := [encode .flush] } = .fault .heldForever := by
  refine ⟨inv_one.1, ?_, ?_, rfl, rfl⟩
  · unfold BlockInv BufferInv SpecInv MarkersSet CountInv RecordInv
    decide
  · unfold BlockInv BufferInv SpecInv MarkersSet CountInv RecordInv
    decide

/-- FLUSH at reset (P5), and END's second step, with and without a scheduled event. -/
theorem test_witness_WaitWithoutTimerIsStuck :
    (HeldStopped { State.reset with cmdIn := [encode .flush], schedule := [.foreground] } ∧
      ∃ t, step { State.reset with cmdIn := [encode .flush], schedule := [.foreground] } = .next t ∧ t.fault = []) ∧
      HeldStopped { State.reset with endPending := true } ∧ { State.reset with endPending := true }.schedule = [] ∧
      { State.reset with endPending := true }.fault = [] :=
  ⟨⟨⟨by decide, by decide, .inr ⟨[], rfl⟩⟩, _, rfl, by decide⟩, ⟨by decide, by decide, .inl rfl⟩, rfl, rfl⟩

/-- FLUSH in IDLE with the timer running. -/
theorem test_witness_HeldForegroundLetsTicksRun :
    { two .idle 0 0 0 with cmdIn := [encode .flush] }.fault = [] ∧
      { two .idle 0 0 0 with cmdIn := [encode .flush] }.schedule = [] ∧
      { two .idle 0 0 0 with cmdIn := [encode .flush] }.running = true ∧
      { two .idle 0 0 0 with cmdIn := [encode .flush] }.cmdHeld = true := by decide

/-- A TICK that enters DONE. -/
theorem test_witness_StepKeepsInv : BlockInv (one .data 5 1 0) ∧ ∃ t, step (one .data 5 1 0) = .next t ∧ t.phase = .done :=
  ⟨inv_one.2.2.1, _, rfl, by decide⟩

/-- A reachable state with no fault, its first pixel in range. -/
theorem test_witness_ReachableStatesSatisfySpecInv :
    Reachable (State.constructed 1) ∧ (State.constructed 1).fault = [] ∧ 0 < (State.constructed 1).numLeds.toNat :=
  ⟨Reachable.start 1 (State.constructed 1) [] [] rfl, by decide, by decide⟩

/-- The 32nd TICK enters HEADER. -/
theorem test_witness_FrameStartsOnGridOfThirtyTwo :
    TickGrid { one .idle 31 0 0 with txlog := zeros 31 } ∧
      ∃ t, step { one .idle 31 0 0 with txlog := zeros 31 } = .next t ∧
        { one .idle 31 0 0 with txlog := zeros 31 }.phase ≠ .header ∧ t.phase = .header :=
  ⟨by unfold TickGrid; decide, _, rfl, by decide, by decide⟩

/-- A state of the invariant. -/
theorem test_witness_ExecAnswersUnderInv : BlockInv (one .data 5 1 0) := inv_one.2.2.1

/-- An instruction that changes the field, for each clause. -/
theorem test_witness_WritersOfEachField :
    (∃ t, exec .showFrame (two .done 8 4 2) = .next t ∧ t.phase ≠ (two .done 8 4 2).phase) ∧
      (∃ t, exec .tick (two .data 7 3 1) = .next t ∧ t.bc ≠ 3 ∧ t.cursor ≠ 1 ∧ t.tick ≠ 7 ∧ t.txlog ≠ []) ∧
      (∃ t, exec .beginBlock State.reset = .next t ∧ t.running ≠ false ∧ t.begun ≠ false ∧ t.calls ≠ []) ∧
      (∃ t, exec .endBlock (two .done 8 4 2) = .next t ∧ t.endPending ≠ false ∧ t.pix ≠ (two .done 8 4 2).pix) ∧
      (∃ t, exec .pixelCount State.reset = .next t ∧ t.result ≠ 0 ∧ t.returns ≠ []) ∧
      ∃ t, exec (.setRefreshRate 50) State.reset = .next t ∧ t.rateReq ≠ 0 :=
  ⟨⟨_, rfl, by decide⟩, ⟨_, rfl, by decide⟩, ⟨_, rfl, by decide, by decide, nofun⟩, ⟨_, rfl, by decide⟩, ⟨_, rfl, by decide⟩,
    ⟨_, rfl, by decide⟩⟩

/-- TICK, a faulting command, a FLUSH that holds, and END's second step in DONE with a command waiting. -/
theorem test_witness_CompletedCommandsMoveOn :
    (∃ t, exec .tick (two .idle 0 0 0) = .next t) ∧
      (∃ t, exec .beginBlock { two .idle 0 0 0 with cmdIn := [encode .beginBlock] } = .next t ∧ t.fault ≠ []) ∧
      (∃ t, exec .flush { two .idle 0 0 0 with cmdIn := [encode .flush] } = .next t ∧ t.fault = [] ∧ t.cmdIn ≠ []) ∧
      ∃ t, exec .endBlock { two .done 8 4 2 with endPending := true, cmdIn := [encode .flush] } = .next t :=
  ⟨⟨_, rfl⟩, ⟨_, rfl, by decide⟩, ⟨_, rfl, by decide, by decide⟩, ⟨_, rfl⟩⟩

/-- The last pixel in IDLE and in DONE. -/
theorem test_witness_SetColorRgbStoresPackedWord :
    (two .idle 0 0 0).pix.wf = true ∧ (1 : Word16).toNat < (two .idle 0 0 0).numLeds.toNat ∧
      (two .idle 0 0 0).phase = .idle ∧ (two .done 8 4 2).pix.wf = true ∧ (two .done 8 4 2).phase = .done := by decide

/-- The last pixel in IDLE and in DONE. -/
theorem test_witness_SetColorRawStoresMarkedWord :
    (two .idle 0 0 0).pix.wf = true ∧ (1 : Word16).toNat < (two .idle 0 0 0).numLeds.toNat ∧
      (two .idle 0 0 0).phase = .idle ∧ (two .done 8 4 2).pix.wf = true ∧ (two .done 8 4 2).phase = .done := by decide

/-- Index N, and index N - 1 in HEADER and in DATA. -/
theorem test_witness_BoundIsCheckedBeforePhase :
    (two .data 7 3 1).numLeds.toNat ≤ (2 : Word16).toNat ∧ (1 : Word16).toNat < (two .data 7 3 1).numLeds.toNat ∧
      (two .header 1 1 0).phase = .header ∧ (two .data 7 3 1).phase = .data ∧ (two .data 7 3 1).fault = [] ∧
      (∃ r g b, Instr.setColorRgb 1 1 2 3 = .setColorRgb 1 r g b) ∧
      ∃ word, Instr.setColorRaw 1 0 = .setColorRaw 1 word :=
  ⟨by decide, by decide, rfl, rfl, rfl, ⟨1, 2, 3, rfl⟩, ⟨0, rfl⟩⟩

/-- The three writes, and a state in each phase. -/
theorem test_witness_WritesInFlightRaiseMidFrameWrite :
    (∃ index r g b, Instr.setColorRgb 1 1 2 3 = .setColorRgb index r g b ∧
        index.toNat < (two .header 1 1 0).numLeds.toNat) ∧
      (∃ index word, Instr.setColorRaw 1 0 = .setColorRaw index word ∧
        index.toNat < (two .data 7 3 1).numLeds.toNat) ∧
      (two .idle 0 0 0).endPending = false ∧
      (two .header 1 1 0).fault = [] ∧ (two .header 1 1 0).phase = .header ∧ (two .data 7 3 1).phase = .data ∧
      (two .idle 0 0 0).phase = .idle ∧ (two .done 8 4 2).phase = .done :=
  ⟨⟨1, 1, 2, 3, rfl, by decide⟩, ⟨1, 0, rfl, by decide⟩, rfl, rfl, rfl, rfl, rfl, rfl⟩

/-- A write at the last pixel, and the first cell outside the buffer. -/
theorem test_witness_SetColorStaysInsideBuffer :
    (∃ word, Instr.setColorRaw 1 0 = .setColorRaw 1 word) ∧ (∃ t, exec (.setColorRaw 1 0) (two .idle 0 0 0) = .next t) ∧
      2 * (two .idle 0 0 0).numLeds.toNat ≤ 4 :=
  ⟨⟨0, rfl⟩, ⟨_, rfl⟩, by decide⟩

/-- The last pixel; every word of the buffer has its marker. -/
theorem test_witness_GetReturnsStoredWord :
    (1 : Word16).toNat < (two .data 7 3 1).numLeds.toNat ∧ MarkersSet (two .data 7 3 1) := by
  unfold MarkersSet
  decide

/-- Index N and index 0xFFFF. -/
theorem test_witness_GetOutsideBufferFaults :
    (two .data 7 3 1).numLeds.toNat ≤ (2 : Word16).toNat ∧ (two .data 7 3 1).numLeds.toNat ≤ (0xFFFF : Word16).toNat ∧
      (two .data 7 3 1).fault = [] := by decide

/-- A step. -/
theorem test_witness_PixelCountReturnsStrandLength : ∃ t, step (two .idle 0 0 0) = .next t := ⟨_, rfl⟩

/-- Steps in HEADER and in DATA. -/
theorem test_witness_BufferIsStableInFlight :
    (∃ t, step (two .header 1 1 0) = .next t ∧ (two .header 1 1 0).phase = .header) ∧
      ∃ t, step (two .data 7 3 1) = .next t ∧ (two .data 7 3 1).phase = .data :=
  ⟨⟨_, rfl, rfl⟩, ⟨_, rfl, rfl⟩⟩

/-- `tick` 31 and `tick` 30. -/
theorem test_witness_TickInIdle :
    (two .idle 31 5 2).running = true ∧ (two .idle 31 5 2).phase = .idle ∧ (two .idle 31 5 2).tick.toNat = 31 ∧
      (two .idle 30 0 0).running = true ∧ (two .idle 30 0 0).phase = .idle ∧ (two .idle 30 0 0).tick.toNat ≠ 31 := by decide

/-- `bc` 3 and `bc` 2. -/
theorem test_witness_TickInHeader :
    (two .header 3 3 0).running = true ∧ (two .header 3 3 0).phase = .header ∧ (two .header 3 3 0).bc.toNat = 3 ∧
      (two .header 2 2 0).running = true ∧ (two .header 2 2 0).phase = .header ∧ (two .header 2 2 0).bc.toNat ≠ 3 := by decide

/-- The high byte of the last pixel. -/
theorem test_witness_TickSendsHighByte :
    (two .data 6 2 1).running = true ∧ (two .data 6 2 1).phase = .data ∧
      (two .data 6 2 1).cursor.toNat < (two .data 6 2 1).numLeds.toNat ∧ (two .data 6 2 1).bc.toNat % 2 = 0 := by decide

/-- The low bytes of the last pixel and of the one before it. -/
theorem test_witness_TickSendsLowByte :
    ((two .data 7 3 1).running = true ∧ (two .data 7 3 1).phase = .data ∧
      (two .data 7 3 1).cursor.toNat < (two .data 7 3 1).numLeds.toNat ∧ (two .data 7 3 1).bc.toNat % 2 = 1 ∧
      (two .data 7 3 1).numLeds.toNat ≤ (two .data 7 3 1).cursor.toNat + 1) ∧
      (two .data 5 1 0).bc.toNat % 2 = 1 ∧ (two .data 5 1 0).cursor.toNat + 1 < (two .data 5 1 0).numLeds.toNat := by decide

/-- DONE at the wrap of `tick`. -/
theorem test_witness_TickInDone : (two .done 31 4 2).running = true ∧ (two .done 31 4 2).phase = .done := by decide

/-- A running TICK, a stopped one, and another instruction. -/
theorem test_witness_EveryTickEmitsOneByte :
    (∃ t, exec .tick (two .idle 0 0 0) = .next t ∧ (two .idle 0 0 0).running = true) ∧
      (∃ t, exec .tick State.reset = .next t ∧ State.reset.running = false) ∧
      ∃ t, exec .showFrame (two .idle 0 0 0) = .next t ∧ Instr.showFrame ≠ .tick :=
  ⟨⟨_, rfl, rfl⟩, ⟨_, rfl, rfl⟩, ⟨_, rfl, by decide⟩⟩

/-- A running TICK outside IDLE, and an instruction that is no TICK. -/
theorem test_witness_TickCountsInEveryPhase :
    (∃ t, exec .tick (two .done 31 4 2) = .next t ∧ (two .done 31 4 2).running = true ∧
        (two .done 31 4 2).phase ≠ .idle) ∧
      ∃ t, exec .pixelCount (two .done 31 4 2) = .next t ∧ Instr.pixelCount ≠ .tick :=
  ⟨⟨_, rfl, rfl, by decide⟩, ⟨_, rfl, by decide⟩⟩

/-- Two states that differ in a pixel the TICK does not read. -/
theorem test_witness_TickReadsOnlyItsInputs :
    SameSequencer (two .data 4 0 0) { two .data 4 0 0 with pix := [(1, 0x1F)] } ∧
      { two .data 4 0 0 with pix := [(1, 0x1F)] }.running = (two .data 4 0 0).running ∧
      { two .data 4 0 0 with pix := [(1, 0x1F)] }.numLeds = (two .data 4 0 0).numLeds ∧
      { two .data 4 0 0 with pix := [(1, 0x1F)] }.pixel 0 = (two .data 4 0 0).pixel 0 ∧
      (two .data 4 0 0).running = true ∧ ∃ t, exec .tick (two .data 4 0 0) = .next t :=
  ⟨⟨rfl, rfl, rfl, rfl⟩, rfl, rfl, by decide, rfl, _, rfl⟩

/-- A state of the invariant outside DATA, and one in DATA before a high byte and before a low byte. -/
theorem test_witness_OnlyHighBytesCarryTheMarker :
    (BlockInv (one .done 6 2 1) ∧ (one .done 6 2 1).running = true ∧ (one .done 6 2 1).phase ≠ .data) ∧
      (BlockInv (one .data 4 0 0) ∧ (one .data 4 0 0).phase = .data ∧ (one .data 4 0 0).bc.toNat % 2 = 0) ∧
      BlockInv (one .data 5 1 0) ∧ (one .data 5 1 0).phase = .data ∧ (one .data 5 1 0).bc.toNat % 2 = 1 := by
  refine ⟨⟨inv_one.2.2.2, rfl, by decide⟩, ⟨?_, rfl, rfl⟩, inv_one.2.2.1, rfl, rfl⟩
  unfold BlockInv BufferInv SpecInv MarkersSet CountInv RecordInv
  decide

/-- The longest and the shortest dwell, with the last TICK before each entry. -/
theorem test_witness_IdleDwellIsThirtyTwoMinusTick :
    ((two .idle 0 0 0).running = true ∧ (two .idle 0 0 0).phase = .idle ∧ 31 < 32 - (two .idle 0 0 0).tick.toNat) ∧
      (two .idle 31 5 2).running = true ∧ (two .idle 31 5 2).phase = .idle ∧ 0 < 32 - (two .idle 31 5 2).tick.toNat := by
  decide

/-- N = 1 at the entry into HEADER: one TICK before DONE, with a GET between, and at DONE. -/
theorem test_witness_FrameShapeUnderInterleaving :
    ((one .header 0 0 0).phase = .header ∧ (one .header 0 0 0).bc = 0 ∧ (one .header 0 0 0).cursor = 0 ∧
      (one .header 0 0 0).running = true ∧ (one .header 0 0 0).numLeds ≠ 0) ∧
      (∀ i ∈ [Instr.tick, .getPixel 0, .tick, .tick, .tick, .tick], i ≠ Instr.showFrame ∧ i ≠ .endBlock) ∧
      (∃ t, runEvents [.tick, .getPixel 0, .tick, .tick, .tick, .tick] (one .header 0 0 0) = .next t ∧ t.fault = [] ∧
        [Instr.tick, .getPixel 0, .tick, .tick, .tick, .tick].count .tick < 4 + 2 * (one .header 0 0 0).numLeds.toNat) ∧
      (∀ i ∈ List.replicate 6 Instr.tick, i ≠ Instr.showFrame ∧ i ≠ .endBlock) ∧
      ∃ t, runEvents (List.replicate 6 .tick) (one .header 0 0 0) = .next t ∧ t.fault = [] ∧
        4 + 2 * (one .header 0 0 0).numLeds.toNat ≤ (List.replicate 6 Instr.tick).count .tick :=
  ⟨by decide, by decide, ⟨_, rfl, by decide, by decide⟩, by decide, ⟨_, rfl, by decide, by decide⟩⟩

/-- N = 1 in IDLE at both ends of the dwell: with SHOW and a write before the entry into HEADER and a GET after it, one
TICK before DONE and at DONE. -/
theorem test_witness_FullTransmitCycle :
    ((one .idle 0 0 0).phase = .idle ∧ (one .idle 0 0 0).running = true ∧ (one .idle 0 0 0).numLeds ≠ 0) ∧
      ((one .idle 31 0 0).phase = .idle ∧ (one .idle 31 0 0).running = true ∧ (one .idle 31 0 0).numLeds ≠ 0) ∧
      [Instr.showFrame, .setColorRaw 0 0x1234].count .tick = 31 - (one .idle 31 0 0).tick.toNat ∧
      ∃ u, runEvents ([.showFrame, .setColorRaw 0 0x1234] ++ [.tick]) (one .idle 31 0 0) = .next u ∧
        (∀ i ∈ [Instr.tick, .getPixel 0, .tick, .tick, .tick, .tick], i ≠ Instr.showFrame ∧ i ≠ .endBlock) ∧
        (∃ t, runEvents [.tick, .getPixel 0, .tick, .tick, .tick, .tick] u = .next t ∧ t.fault = [] ∧
          [Instr.tick, .getPixel 0, .tick, .tick, .tick, .tick].count .tick <
            4 + 2 * (one .idle 31 0 0).numLeds.toNat) ∧
        (∀ i ∈ List.replicate 6 Instr.tick, i ≠ Instr.showFrame ∧ i ≠ .endBlock) ∧
        ∃ t, runEvents (List.replicate 6 .tick) u = .next t ∧ t.fault = [] ∧
          4 + 2 * (one .idle 31 0 0).numLeds.toNat ≤ (List.replicate 6 Instr.tick).count .tick :=
  ⟨by decide, by decide, by decide, _, rfl, by decide, ⟨_, rfl, by decide, by decide⟩, by decide,
    ⟨_, rfl, by decide, by decide⟩⟩

/-- A state of the invariant in each phase. -/
theorem test_witness_DoneIsReachedWithinBound :
    (BlockInv (one .idle 0 0 0) ∧ BlockInv (one .header 3 3 0) ∧ BlockInv (one .data 5 1 0) ∧ BlockInv (one .done 6 2 1)) ∧
      (one .idle 0 0 0).running = true ∧ (one .header 3 3 0).running = true ∧ (one .data 5 1 0).running = true ∧
      (one .done 6 2 1).running = true := ⟨inv_one, rfl, rfl, rfl, rfl⟩

/-- SHOW in HEADER and in DATA. -/
theorem test_witness_ShowCutsTheFrameShort :
    (two .header 2 2 0).running = true ∧ (two .header 2 2 0).phase = .header ∧ (two .data 7 3 1).running = true ∧
      (two .data 7 3 1).phase = .data := by decide

/-- A TICK that enters DONE, a SHOW that leaves it, and a step of the Timer in DONE. -/
theorem test_witness_DoneIsLeftOnlyByShowOrEnd :
    (∃ t, exec .tick (two .data 7 3 1) = .next t ∧ (two .data 7 3 1).phase ≠ .done ∧ t.phase = .done) ∧
      (∃ t, exec .showFrame (two .done 8 4 2) = .next t ∧ (two .done 8 4 2).phase = .done ∧ t.phase ≠ .done) ∧
      (∃ t, step (two .done 31 4 2) = .next t) ∧ nextAgent (two .done 31 4 2) = some .timer :=
  ⟨⟨_, rfl, by decide, by decide⟩, ⟨_, rfl, by decide, by decide⟩, ⟨_, rfl⟩, by decide⟩

/-- The state after a construction. -/
theorem test_witness_BeginStartsTheTimer : State.reset.begun = false := by decide

/-- Both values of `begun`, and a step with `begun = 1`. -/
theorem test_witness_SecondBeginFaults :
    State.reset.begun = false ∧ (two .idle 0 0 0).begun = true ∧ (two .idle 0 0 0).fault = [] ∧
      ∃ t, step (two .idle 0 0 0) = .next t := ⟨rfl, rfl, rfl, _, rfl⟩

/-- DONE and a phase that is not. -/
theorem test_witness_FlushCompletesInDone : (two .done 8 4 2).phase = .done ∧ (two .data 7 3 1).phase ≠ .done := by decide

/-- IDLE and DONE, the first and the last pixel, and the first cell outside the buffer. -/
theorem test_witness_EndClearsAndSchedules :
    (two .idle 0 0 0).pix.wf = true ∧ (two .idle 0 0 0).endPending = false ∧ (two .idle 0 0 0).phase = .idle ∧
      (two .done 8 4 2).phase = .done ∧ 0 < (two .done 8 4 2).numLeds.toNat ∧ 1 < (two .done 8 4 2).numLeds.toNat ∧
      2 * (two .done 8 4 2).numLeds.toNat ≤ 4 := by decide

/-- A waiting END in DONE and in IDLE. -/
theorem test_witness_EndStopsInDone :
    { two .done 8 4 2 with endPending := true }.endPending = true ∧
      { two .done 8 4 2 with endPending := true }.phase = .done ∧
      { two .idle 8 4 2 with endPending := true }.phase ≠ .done := by decide

/-- END in IDLE and in DONE with the timer running. -/
theorem test_witness_EndSendsOneBlackFrame :
    (BlockInv (one .idle 0 0 0) ∧ (one .idle 0 0 0).running = true ∧ (one .idle 0 0 0).endPending = false ∧
      (one .idle 0 0 0).phase = .idle) ∧ BlockInv (one .done 6 2 1) ∧ (one .done 6 2 1).phase = .done :=
  ⟨⟨inv_one.1, rfl, rfl, rfl⟩, inv_one.2.2.2, rfl⟩

/-- A rate request, and two TICKs after the state before it. -/
theorem test_witness_RefreshRateNeverChangesBytes :
    (∃ t, exec (.setRefreshRate 50) (two .data 6 2 1) = .next t) ∧ ∃ u, runTicks 2 (two .data 6 2 1) = .next u :=
  ⟨⟨_, rfl⟩, ⟨_, rfl⟩⟩

/-- A SHOW after END has completed. -/
theorem test_witness_StoppedForGood :
    { presents (encode .showFrame) (two .done 8 4 2) with running := false }.begun = true ∧
      { presents (encode .showFrame) (two .done 8 4 2) with running := false }.running = false ∧
      ∃ t, step { presents (encode .showFrame) (two .done 8 4 2) with running := false } = .next t := ⟨rfl, rfl, _, rfl⟩

/-- A step for each clause. -/
theorem test_witness_PortsStrobeAsTheRulesSay :
    ((two .idle 0 0 0).running = true ∧ ∃ t, exec .tick (two .idle 0 0 0) = .next t) ∧
      (State.reset.begun = false ∧ ∃ t, exec .beginBlock State.reset = .next t) ∧
      (∃ t, exec .endBlock { two .done 8 4 2 with endPending := true } = .next t) ∧
      ∃ t, exec (.setRefreshRate 50) State.reset = .next t :=
  ⟨⟨rfl, _, rfl⟩, ⟨rfl, _, rfl⟩, ⟨_, rfl⟩, ⟨_, rfl⟩⟩

end Sys2Proof.Tests
end

section
/-! ### What an instruction can do, and what the pieces of state are that it leaves alone (10_state.md R37) -/

namespace Sys2Proof.Machine

/-! #### Effects -/

/-- The instruction is a SETCOLOR of either form, and `w` the word it asks to store at `index` (40_pixel_buffer.md
R101, R102). -/
def IsSetColor (i : Instr) (index w : Word16) : Prop :=
  (∃ r g b, i = .setColorRgb index r g b ∧ w = pack r g b) ∨ ∃ word, i = .setColorRaw index word ∧ w = markRaw word

/-- What one instruction can leave behind in `s`, one constructor per way it can end. The values of a TICK's sequencer
registers are in `execTick_cases`. -/
inductive Effect (s : State) : Instr → State → Prop where
  | ticked (b : Byte) (p : Phase) (bc : Byte) (cursor : Word16) (hr : s.running = true) :
      Effect s .tick { s.countTick.emit b with phase := p, bc := bc, cursor := cursor }
  | faulted (i : Instr) (r : FaultRecord) (hi : i ≠ .flush) (ht : i = .tick → s.running = false) :
      Effect s i (s.raiseFault r)
  | shown : Effect s .showFrame (s.setPhase .idle).retire
  | flushed (hp : s.phase = .done) : Effect s .flush s.retire
  | flushHeld (hp : s.phase ≠ .done) : Effect s .flush s
  | ignored {i : Instr} {index w : Word16} (hi : IsSetColor i index w) (hge : s.numLeds.toNat ≤ index.toNat) :
      Effect s i s.retire
  | stored {i : Instr} {index w : Word16} (hi : IsSetColor i index w) (hlt : index.toNat < s.numLeds.toNat)
      (hf : s.inFlight = false) : Effect s i (s.memWrite index w).retire
  | gotPixel (index : Word16) (hlt : index.toNat < s.numLeds.toNat) :
      Effect s (.getPixel index) (s.giveResult (s.pixel index.toNat)).retire
  | gotCount : Effect s .pixelCount (s.giveResult s.numLeds).retire
  | started (hb : s.begun = false) :
      Effect s .beginBlock (((s.callPorts beginCalls).setRunning true).setBegun).retire
  | endScheduled (he : s.endPending = false) (hf : s.inFlight = false) :
      Effect s .endBlock (((s.clearBuffer).setPhase .idle).setEndPending true).retire
  | endStopped (he : s.endPending = true) (hp : s.phase = .done) :
      Effect s .endBlock (((s.callPorts endCalls).setRunning false).setEndPending false)
  | endHeld (he : s.endPending = true) (hp : s.phase ≠ .done) : Effect s .endBlock s
  | rateSet (pct : Byte) :
      Effect s (.setRefreshRate pct)
        ((s.setRateReq pct).callPorts [.timerInitialize (Config.refreshPeriod pct)]).retire

variable {i : Instr} {s t : State}

theorem tickIdle_eq (s : State) :
    tickIdle s = if s.tick + 1#5 = 0#5 then (s.countTick.emit 0x00#8).enterPhase .header
      else s.countTick.emit 0x00#8 := rfl

theorem tickHeader_eq (s : State) :
    tickHeader s = if s.bc + 1#8 = 4#8 then (s.countTick.emit 0x00#8).countByte.enterPhase .data
      else (s.countTick.emit 0x00#8).countByte := rfl

theorem tickLow_eq (s : State) (w : Word16) :
    tickLow s w = if s.numLeds.toNat ≤ (s.cursor + 1#16).toNat
      then (s.countTick.emit (lowByte w)).countByte.advanceCursor.setPhase .done
      else (s.countTick.emit (lowByte w)).countByte.advanceCursor := rfl

/-- A running TICK counts, emits one byte and writes the sequencer's registers, in every phase (41_sequencer.md R131). -/
theorem execTick_of_running (hr : s.running = true) (h : execTick s = .next t) :
    ∃ b p bc cursor, t = { s.countTick.emit b with phase := p, bc := bc, cursor := cursor } := by
  rcases execTick_cases h with ⟨hr', -⟩ | ⟨-, ⟨-, rfl⟩ | ⟨-, rfl⟩ | ⟨-, -, -, rfl⟩ | ⟨-, -, -, rfl⟩ | ⟨-, rfl⟩⟩
  · simp [hr] at hr'
  · rw [tickIdle_eq]
    split <;> exact ⟨_, _, _, _, rfl⟩
  · rw [tickHeader_eq]
    split <;> exact ⟨_, _, _, _, rfl⟩
  · exact ⟨_, _, _, _, rfl⟩
  · rw [tickLow_eq]
    split <;> exact ⟨_, _, _, _, rfl⟩
  · exact ⟨_, _, _, _, rfl⟩

theorem setColor_effect {index w : Word16} (hi : IsSetColor i index w) (h : setColor i index w s = .next t) :
    Effect s i t := by
  rcases setColor_cases h with ⟨hge, rfl⟩ | ⟨-, -, rfl⟩ | ⟨hlt, hf, rfl⟩
  · exact .ignored hi hge
  · obtain ⟨_, _, _, rfl, -⟩ | ⟨_, rfl, -⟩ := hi <;> exact .faulted _ _ nofun nofun
  · exact .stored hi hlt hf

/-- Whatever state an instruction answers, it is by one of the effects. -/
theorem exec_effect (h : exec i s = .next t) : Effect s i t := by
  cases i with
  | tick =>
    by_cases hr : s.running = true
    · obtain ⟨b, p, bc, cursor, rfl⟩ := execTick_of_running hr h
      exact .ticked b p bc cursor hr
    · rcases execTick_cases h with ⟨hr', rfl⟩ | ⟨hr', -⟩
      · exact .faulted _ _ nofun fun _ => hr'
      · exact absurd hr' hr
  | showFrame => cases h; exact .shown
  | flush =>
    rcases execFlush_cases h with ⟨hp, rfl⟩ | ⟨hp, rfl⟩
    · exact .flushed hp
    · exact .flushHeld hp
  | setColorRgb index r g b => exact setColor_effect (.inl ⟨r, g, b, rfl, rfl⟩) h
  | setColorRaw index word => exact setColor_effect (.inr ⟨word, rfl, rfl⟩) h
  | getPixel index =>
    rcases execGetPixel_cases h with ⟨-, rfl⟩ | ⟨hlt, rfl⟩
    · exact .faulted _ _ nofun nofun
    · exact .gotPixel index hlt
  | pixelCount => cases h; exact .gotCount
  | beginBlock =>
    rcases execBeginBlock_cases h with ⟨-, rfl⟩ | ⟨hb, rfl⟩
    · exact .faulted _ _ nofun nofun
    · exact .started hb
  | endBlock =>
    rcases execEndBlock_cases h with ⟨-, -, rfl⟩ | ⟨he, hf, rfl⟩ | ⟨he, hp, rfl⟩ | ⟨he, hp, rfl⟩
    · exact .faulted _ _ nofun nofun
    · exact .endScheduled he hf
    · exact .endStopped he hp
    · exact .endHeld he hp
  | setRefreshRate pct => cases h; exact .rateSet pct

theorem IsSetColor.isForm {index w : Word16} (hi : IsSetColor i index w) :
    (∃ index r g b, i = .setColorRgb index r g b) ∨ ∃ index word, i = .setColorRaw index word := by
  obtain ⟨r, g, b, rfl, -⟩ | ⟨word, rfl, -⟩ := hi
  · exact .inl ⟨index, r, g, b, rfl⟩
  · exact .inr ⟨index, word, rfl⟩

theorem IsSetColor.ne_others {index w : Word16} (hi : IsSetColor i index w) :
    i ≠ .tick ∧ i ≠ .flush ∧ i ≠ .endBlock := by
  obtain ⟨_, _, _, rfl, -⟩ | ⟨_, rfl, -⟩ := hi <;> exact ⟨nofun, nofun, nofun⟩

/-- Both forms ask to store a word with its marker bit (30_encoding.md R79). -/
theorem IsSetColor.markerOf {index w : Word16} (hi : IsSetColor i index w) : markerOf w = true := by
  rw [markerOf_iff]
  obtain ⟨r, g, b, -, rfl⟩ | ⟨word, -, rfl⟩ := hi
  · rw [pack_toNat]
    omega
  · rw [markRaw_toNat]
    omega

theorem addFault_ne_nil (fs : List FaultRecord) (r : FaultRecord) : addFault fs r ≠ [] := by
  unfold addFault
  split
  · rintro rfl
    contradiction
  · simp

/-- Settles O23: each effect changes only the pieces of state that R37 gives its instruction. -/
theorem writersOfEachField : Obligations.WritersOfEachField := by
  intro i s t h
  cases exec_effect h with
  | stored hi => simp [hi.isForm]
  | _ => simp

/-- Settles O24: an effect either retires the command or leaves the Foreground's position. -/
theorem completedCommandsMoveOn : Obligations.CompletedCommandsMoveOn := by
  intro i s t h
  cases exec_effect h with
  | faulted _ r hi =>
    have hne (hf : addFault s.fault r = s.fault) : s.fault ≠ [] := hf ▸ addFault_ne_nil s.fault r
    simp +contextual [hi, hne]
  | ignored hi => simp [hi.ne_others]
  | stored hi => simp [hi.ne_others]
  | flushed hp => simp [hp]
  | flushHeld hp => simp [hp]
  | endScheduled he => simp [he]
  | endStopped he => simp [he]
  | endHeld he => simp [he]
  | _ => simp

end Sys2Proof.Machine
end

section
/-! ### The invariant of the block (10_state.md R36), kept by every instruction and so by every step -/

namespace Sys2Proof.Machine

/-- The part of `BlockInv` that only a TICK and the phase can break: where the cursor is, and what `bc` counts
(10_state.md R24, R25). -/
structure SeqInv (s : State) : Prop where
  cursor_le : s.cursor.toNat ≤ s.numLeds.toNat
  cursor_lt : s.phase = .data → s.cursor.toNat < s.numLeds.toNat
  header_bc : s.phase = .header → s.bc.toNat < 4
  data_bc : s.phase = .data → s.bc.toNat = (2 * s.cursor.toNat + s.bc.toNat % 2) % 256

/-- The part of `BlockInv` about the timer: (d) and (e) of 10_state.md R36. -/
structure TimerInv (s : State) : Prop where
  running_of_inFlight : s.phase = .header ∨ s.phase = .data → s.running = true
  begun_of_running : s.running = true → s.begun = true

theorem blockInv_iff (s : State) :
    BlockInv s ↔ BufferInv s ∧ MarkersSet s ∧ SeqInv s ∧ TimerInv s ∧ RecordInv s := by
  constructor
  · rintro ⟨hbuf, ⟨hm, hle, hlt, hrun, hbeg⟩, ⟨hh, hd⟩, hrec⟩
    exact ⟨hbuf, hm, ⟨hle, hlt, hh, hd⟩, ⟨hrun, hbeg⟩, hrec⟩
  · rintro ⟨hbuf, hm, ⟨hle, hlt, hh, hd⟩, ⟨hrun, hbeg⟩, hrec⟩
    exact ⟨hbuf, ⟨hm, hle, hlt, hrun, hbeg⟩, ⟨hh, hd⟩, hrec⟩

variable {i : Instr} {s t : State}

/-! #### The buffer -/

theorem exec_keeps_bufferInv (hinv : BufferInv s) (h : exec i s = .next t) : BufferInv t := by
  obtain ⟨hn, hwf, hin⟩ := hinv
  cases exec_effect h with
  | stored _ hlt => exact ⟨hn, Memory.wf_writeWord _ _ hwf, Memory.within_writeWord _ hlt hin⟩
  | endScheduled => exact ⟨hn, Memory.wf_clearWords _ hwf, Memory.within_clearWords le_rfl hin⟩
  | _ => exact ⟨hn, hwf, hin⟩

theorem markersSet_memWrite {index w : Word16} (hm : MarkersSet s) (hwf : s.pix.wf = true) (hw : markerOf w = true) :
    MarkersSet (s.memWrite index w) := by
  intro j hj
  by_cases hji : j = index.toNat
  · rw [hji, State.pixel_memWrite_same s index w hwf]
    exact hw
  · rw [State.pixel_memWrite_other s w hji]
    exact hm j hj

theorem markersSet_clearBuffer (hwf : s.pix.wf = true) : MarkersSet s.clearBuffer := by
  intro j hj
  rw [State.pixel_clearBuffer s hj hwf]
  decide

theorem MarkersSet.of_same_buffer (hm : MarkersSet s) (hn : t.numLeds = s.numLeds) (hp : t.pix = s.pix) :
    MarkersSet t := by
  intro j hj
  rw [State.pixel, hp]
  exact hm j (hn ▸ hj)

theorem exec_keeps_markersSet (hm : MarkersSet s) (hwf : s.pix.wf = true) (h : exec i s = .next t) :
    MarkersSet t := by
  cases exec_effect h with
  | stored hi => exact (markersSet_memWrite hm hwf hi.markerOf).of_same_buffer rfl rfl
  | endScheduled => exact (markersSet_clearBuffer hwf).of_same_buffer rfl rfl
  | _ => exact hm.of_same_buffer rfl rfl

/-! #### The sequencer -/

/-- Bit 0 is the parity by which TICK in DATA selects the byte (41_sequencer.md R131). -/
theorem getLsbD_zero_eq (b : Byte) : b.getLsbD 0 = decide (b.toNat % 2 = 1) := Nat.testBit_zero b.toNat

theorem numLeds_pos (hn : s.numLeds ≠ 0) : 0 < s.numLeds.toNat :=
  Nat.pos_of_ne_zero fun h0 => hn (BitVec.eq_of_toNat_eq h0)

/-- Where the counters stand still, leaving the phase or going to IDLE keeps the invariant. -/
theorem SeqInv.of_same_counters (hinv : SeqInv s) (hn : t.numLeds = s.numLeds) (hc : t.cursor = s.cursor)
    (hb : t.bc = s.bc) (hp : t.phase = s.phase ∨ t.phase = .idle) : SeqInv t := by
  obtain ⟨hle, hlt, hh, hd⟩ := hinv
  rcases hp with hp | hp
  · exact ⟨by rwa [hn, hc], by rwa [hp, hn, hc], by rwa [hp, hb], by rwa [hp, hb, hc]⟩
  · exact ⟨by rwa [hn, hc], by simp [hp], by simp [hp], by simp [hp]⟩

theorem seqInv_enterPhase (s : State) (p : Phase) (hn : s.numLeds ≠ 0) : SeqInv (s.enterPhase p) :=
  ⟨Nat.zero_le _, fun _ => numLeds_pos hn, fun _ => by simp, fun _ => by simp⟩

theorem seqInv_tickHeader (hn : s.numLeds ≠ 0) (hinv : SeqInv s) (hp : s.phase = .header) :
    SeqInv (tickHeader s) := by
  have h4 := hinv.header_bc hp
  rw [tickHeader_eq]
  split
  · exact seqInv_enterPhase _ _ hn
  · next hb =>
    have hne : (s.bc + 1#8).toNat ≠ 4 := fun h => hb (BitVec.eq_of_toNat_eq h)
    have hlt : (s.bc + 1#8).toNat < 4 := by
      rw [BitVec.toNat_add, BitVec.toNat_ofNat] at hne ⊢
      omega
    exact ⟨hinv.cursor_le, by simp [hp], fun _ => hlt, by simp [hp]⟩

theorem seqInv_tickHigh {w : Word16} (hinv : SeqInv s) (hp : s.phase = .data) (hb : s.bc.getLsbD 0 = false) :
    SeqInv (tickHigh s w) := by
  have heven : s.bc.toNat % 2 = 0 := by
    rw [getLsbD_zero_eq] at hb
    simpa using hb
  have hd := hinv.data_bc hp
  have hd' : (s.bc + 1#8).toNat = (2 * s.cursor.toNat + (s.bc + 1#8).toNat % 2) % 256 := by
    rw [BitVec.toNat_add, BitVec.toNat_ofNat]
    omega
  exact ⟨hinv.cursor_le, hinv.cursor_lt, by simp [tickHigh, hp], fun _ => hd'⟩

theorem seqInv_tickLow {w : Word16} (hinv : SeqInv s) (hp : s.phase = .data) (hb : s.bc.getLsbD 0 = true) :
    SeqInv (tickLow s w) := by
  have hodd : s.bc.toNat % 2 = 1 := by
    rw [getLsbD_zero_eq] at hb
    simpa using hb
  have hd := hinv.data_bc hp
  have hlt := hinv.cursor_lt hp
  have hc : (s.cursor + 1#16).toNat = s.cursor.toNat + 1 := by
    have := s.numLeds.isLt
    rw [BitVec.toNat_add, BitVec.toNat_ofNat]
    omega
  have hle' : (s.cursor + 1#16).toNat ≤ s.numLeds.toNat := by omega
  have hd' : (s.bc + 1#8).toNat = (2 * (s.cursor + 1#16).toNat + (s.bc + 1#8).toNat % 2) % 256 := by
    rw [BitVec.toNat_add, BitVec.toNat_ofNat, hc]
    omega
  rw [tickLow_eq]
  split
  · exact ⟨hle', by simp, by simp, by simp⟩
  · next hend => exact ⟨hle', fun _ => Nat.lt_of_not_le hend, by simp [hp], fun _ => hd'⟩

theorem execTick_keeps_seqInv (hn : s.numLeds ≠ 0) (hinv : SeqInv s) (h : execTick s = .next t) : SeqInv t := by
  rcases execTick_cases h with
    ⟨-, rfl⟩ | ⟨-, ⟨-, rfl⟩ | ⟨hp, rfl⟩ | ⟨hp, -, hb, rfl⟩ | ⟨hp, -, hb, rfl⟩ | ⟨-, rfl⟩⟩
  · exact hinv.of_same_counters rfl rfl rfl (.inl rfl)
  · rw [tickIdle_eq]
    split
    · exact seqInv_enterPhase _ _ hn
    · exact hinv.of_same_counters rfl rfl rfl (.inl rfl)
  · exact seqInv_tickHeader hn hinv hp
  · exact seqInv_tickHigh hinv hp hb
  · exact seqInv_tickLow hinv hp hb
  · exact hinv.of_same_counters rfl rfl rfl (.inl rfl)

theorem exec_keeps_seqInv (hn : s.numLeds ≠ 0) (hinv : SeqInv s) (h : exec i s = .next t) : SeqInv t := by
  cases exec_effect h with
  | ticked => exact execTick_keeps_seqInv hn hinv h
  | shown => exact hinv.of_same_counters rfl rfl rfl (.inr rfl)
  | endScheduled => exact hinv.of_same_counters rfl rfl rfl (.inr rfl)
  | _ => exact hinv.of_same_counters rfl rfl rfl (.inl rfl)

/-! #### The timer and the records -/

theorem exec_keeps_timerInv (hinv : TimerInv s) (h : exec i s = .next t) : TimerInv t := by
  obtain ⟨hrun, hbeg⟩ := hinv
  cases exec_effect h with
  | ticked _ _ _ _ hr => exact ⟨fun _ => hr, hbeg⟩
  | shown => exact ⟨by simp, hbeg⟩
  | started => exact ⟨fun _ => rfl, fun _ => rfl⟩
  | endScheduled => exact ⟨by simp, hbeg⟩
  | endStopped _ hp => exact ⟨by simp [hp], nofun⟩
  | _ => exact ⟨hrun, hbeg⟩

theorem recordInv_raiseFault (hf : s.fault = []) (hinv : RecordInv s) (r : FaultRecord) :
    RecordInv (s.raiseFault r) :=
  ⟨hinv.1, by simp [hf, addFault_nil]⟩

theorem recordInv_giveResult (hinv : RecordInv s) (v : Word16) : RecordInv (s.giveResult v) :=
  ⟨List.getLastD_concat.symm, hinv.2⟩

theorem exec_keeps_recordInv (hf : s.fault = []) (hinv : RecordInv s) (h : exec i s = .next t) : RecordInv t := by
  cases exec_effect h with
  | faulted _ r => exact recordInv_raiseFault hf hinv r
  | gotPixel => exact recordInv_giveResult hinv _
  | gotCount => exact recordInv_giveResult hinv _
  | _ => exact hinv

/-! #### The whole invariant -/

theorem exec_keeps_blockInv (hf : s.fault = []) (hinv : BlockInv s) (h : exec i s = .next t) : BlockInv t := by
  obtain ⟨hbuf, hm, hseq, htim, hrec⟩ := (blockInv_iff s).mp hinv
  have ⟨hn, hwf, _⟩ := hbuf
  exact (blockInv_iff t).mpr ⟨exec_keeps_bufferInv hbuf h, exec_keeps_markersSet hm hwf h, exec_keeps_seqInv hn hseq h,
    exec_keeps_timerInv htim h, exec_keeps_recordInv hf hrec h⟩

theorem blockInv_raiseFault (hf : s.fault = []) (hinv : BlockInv s) (r : FaultRecord) : BlockInv (s.raiseFault r) := by
  obtain ⟨hbuf, hspec, hcount, hrec⟩ := hinv
  exact ⟨hbuf, hspec, hcount, recordInv_raiseFault hf hrec r⟩

/-- What holds with the turn taken, after an `IllegalCommand` and after every instruction holds after every step. -/
theorem step_preserves {P : State → Prop} (h : step s = .next t) (hturn : P s.takeTurn)
    (hillegal : ∀ w, P (s.takeTurn.raiseFault (.illegalCommand w))) (hexec : ∀ i, exec i s.takeTurn = .next t → P t) :
    P t := by
  obtain ⟨-, ⟨-, hx⟩ | ⟨-, ⟨i, -, hx⟩ | ⟨w, rfl⟩ | rfl⟩⟩ := step_cases h
  · exact hexec .tick hx
  · exact hexec i hx
  · exact hillegal w
  · exact hturn

/-- Settles O19, from the invariant's parts, each kept by every instruction. -/
theorem stepKeepsInv : Obligations.StepKeepsInv := by
  intro s t hinv h
  obtain ⟨hf, -⟩ := step_cases h
  have hturn : BlockInv s.takeTurn := hinv
  have hfturn : s.takeTurn.fault = [] := hf
  exact step_preserves h hturn (fun w => blockInv_raiseFault hfturn hturn _) fun i hx =>
    exec_keeps_blockInv hfturn hturn hx

/-! #### The states of a run -/

theorem construct_cases {n : Nat} (h : construct n = .next s) :
    ∃ N : Word16, N ≠ 0 ∧ s = State.constructed N := by
  unfold construct at h
  split at h
  · next hn =>
    injection h with h
    refine ⟨BitVec.ofNat 16 n, fun h0 => ?_, h.symm⟩
    have := congrArg BitVec.toNat h0
    simp at this
    omega
  · simp at h

theorem blockInv_constructed {N : Word16} (hN : N ≠ 0) : BlockInv (State.constructed N) := by
  have hm : MarkersSet (State.constructed N) := fun i _ => by
    rw [State.pixel, State.constructed_pix, Memory.readWord_nil]
    decide
  exact (blockInv_iff _).mpr ⟨⟨hN, rfl, rfl⟩, hm, ⟨Nat.zero_le _, nofun, nofun, nofun⟩, ⟨by simp, nofun⟩,
    rfl, by simp⟩

/-- Settles O9: a construction gives every field its reset value, with N at least 1. -/
theorem invHoldsAfterConstruction : Obligations.InvHoldsAfterConstruction := by
  have hgrid (N : Word16) : TickGrid (State.constructed N) := rfl
  refine ⟨fun n s h => ?_, rfl, blockInv_constructed (by decide), hgrid _⟩
  obtain ⟨N, hN, rfl⟩ := construct_cases h
  exact ⟨blockInv_constructed hN, hgrid N⟩

theorem Reachable.blockInv (h : Reachable s) : BlockInv s := by
  induction h with
  | start n s program order h =>
    obtain ⟨N, hN, rfl⟩ := construct_cases h
    exact blockInv_constructed hN
  | step s t _ hs ih => exact stepKeepsInv s t ih hs

/-- The block of one LED after a construction and END's first step, the timer never started. -/
def endAtReset : State := { State.constructed 1 with endPending := true, turn := 1 }

theorem reachable_endAtReset : Reachable endAtReset :=
  .step _ _ (.start 1 (State.constructed 1) [encode .endBlock] [.foreground] rfl) rfl

/-- Settles O20: every reachable state has `BlockInv`; END as the first command gives the waiting END. -/
theorem reachableStatesSatisfySpecInv : Obligations.ReachableStatesSatisfySpecInv := by
  refine ⟨fun s hs _ => ?_, endAtReset, reachable_endAtReset, rfl, rfl, rfl⟩
  obtain ⟨-, hspec, -⟩ := hs.blockInv
  exact hspec

end Sys2Proof.Machine
end

section
/-! ### The emitted bytes, the throttle counter, `begun` and the output ports (10_state.md R26, R28, R33, R40) -/

namespace Sys2Proof.Machine

variable {i : Instr} {s t : State}

/-! #### A TICK -/

/-- A running TICK emits one byte and counts; nothing else emits or counts. -/
theorem exec_emits_and_counts (h : exec i s = .next t) :
    (i = .tick ∧ s.running = true ∧ (∃ b, t.txlog = s.txlog ++ [b]) ∧ t.tick = s.tick + 1#5) ∨
      ((i ≠ .tick ∨ s.running = false) ∧ t.txlog = s.txlog ∧ t.tick = s.tick) := by
  cases exec_effect h with
  | ticked b _ _ _ hr => exact .inl ⟨rfl, hr, ⟨b, rfl⟩, rfl⟩
  | faulted _ _ _ ht => exact .inr ⟨(ne_or_eq i .tick).imp_right ht, rfl, rfl⟩
  | ignored hi => exact .inr ⟨.inl hi.ne_others.1, rfl, rfl⟩
  | stored hi => exact .inr ⟨.inl hi.ne_others.1, rfl, rfl⟩
  | _ => exact .inr ⟨.inl nofun, rfl, rfl⟩

/-- Settles O39: a running TICK is the one instruction that emits. -/
theorem everyTickEmitsOneByte : Obligations.EveryTickEmitsOneByte := by
  refine ⟨fun _ => rfl, fun i s t h => ?_⟩
  rcases exec_emits_and_counts h with ⟨hi, hr, hlog, -⟩ | ⟨hno, hlog, -⟩
  · exact ⟨fun _ _ => hlog, by simp [hi, hr]⟩
  · exact ⟨fun hi hr => by simp [hi, hr] at hno, fun _ => hlog⟩

theorem execTick_header (hr : s.running = true) (hp : s.phase = .header) : execTick s = .next (tickHeader s) := by
  simp [execTick, hr, hp]

theorem execTick_data (hr : s.running = true) (hp : s.phase = .data) (hlt : s.cursor.toNat < s.numLeds.toNat) :
    execTick s = if s.bc.getLsbD 0 then .next (tickLow s (s.pixel s.cursor.toNat))
      else .next (tickHigh s (s.pixel s.cursor.toNat)) := by
  have hread := State.memRead_eq_some.mpr ⟨hlt, rfl⟩
  simp only [execTick, tickData, hr, hp, hread, if_true]

theorem execTick_done (hr : s.running = true) (hp : s.phase = .done) : execTick s = .next (tickDone s) := by
  simp [execTick, hr, hp]

theorem tickHeader_with_tick (s : State) (x : BitVec 5) :
    tickHeader { s with tick := x } = { tickHeader s with tick := x + 1 } := by
  rw [tickHeader_eq, tickHeader_eq]
  split <;> rfl

theorem tickLow_with_tick (s : State) (x : BitVec 5) (w : Word16) :
    tickLow { s with tick := x } w = { tickLow s w with tick := x + 1 } := by
  rw [tickLow_eq, tickLow_eq]
  split <;> rfl

/-- Outside IDLE no arm of TICK reads `tick` (41_sequencer.md R131). -/
theorem execTick_with_tick (x : BitVec 5) (hr : s.running = true) (hp : s.phase ≠ .idle) (h : execTick s = .next t) :
    execTick { s with tick := x } = .next { t with tick := x + 1 } := by
  rcases execTick_cases h with
    ⟨hr', -⟩ | ⟨-, ⟨hp', -⟩ | ⟨hp, rfl⟩ | ⟨hp, hlt, hb, rfl⟩ | ⟨hp, hlt, hb, rfl⟩ | ⟨hp, rfl⟩⟩
  · simp [hr] at hr'
  · exact absurd hp' hp
  · rw [← tickHeader_with_tick]
    exact execTick_header hr hp
  · exact (execTick_data (s := { s with tick := x }) hr hp hlt).trans (if_neg (by simpa using hb))
  · rw [← tickLow_with_tick]
    exact (execTick_data (s := { s with tick := x }) hr hp hlt).trans (if_pos hb)
  · exact execTick_done hr hp

/-- Settles O40: a running TICK is the one instruction that counts, and only its IDLE arm reads the counter. -/
theorem tickCountsInEveryPhase : Obligations.TickCountsInEveryPhase := by
  refine ⟨fun i s t h => ?_, fun s t x hr hp h => execTick_with_tick x hr hp h⟩
  rcases exec_emits_and_counts h with ⟨hi, -, -, htick⟩ | ⟨hno, -, htick⟩
  · refine ⟨fun _ _ => ?_, fun hi' => absurd hi hi'⟩
    rw [htick]
    exact BitVec.toNat_add s.tick 1#5
  · exact ⟨fun hi hr => by simp [hi, hr] at hno, fun _ => htick⟩

/-! #### `begun` -/

theorem exec_keeps_begun (hb : s.begun = true) (h : exec i s = .next t) : t.begun = true := by
  cases exec_effect h with
  | started => rfl
  | _ => exact hb

theorem execBeginBlock_first (hb : s.begun = false) :
    execBeginBlock s = .next (((s.callPorts beginCalls).setRunning true).setBegun).retire := by
  simp [execBeginBlock, hb]

theorem execBeginBlock_again (hb : s.begun = true) : execBeginBlock s = .next (s.raiseFault .beginTwice) := by
  simp [execBeginBlock, hb]

theorem sameBlock_raiseFault (s : State) (r : FaultRecord) : SameBlock s (s.raiseFault r) :=
  ⟨⟨rfl, rfl, rfl, rfl⟩, ⟨rfl, rfl, rfl⟩, ⟨rfl, rfl, rfl⟩, ⟨rfl, rfl⟩, rfl, fun _ => rfl⟩

/-- Settles O51: BEGIN in both states of `begun`, and no effect clears it. -/
theorem secondBeginFaults : Obligations.SecondBeginFaults := by
  refine ⟨fun _ => rfl, fun s hb => ⟨_, execBeginBlock_first hb, rfl⟩, fun s hb hf => ?_, fun s t h hb => ?_⟩
  · exact ⟨_, execBeginBlock_again hb, by simp [hf, addFault_nil], sameBlock_raiseFault s _⟩
  · have hturn : s.takeTurn.begun = true := hb
    exact step_preserves (P := fun t => t.begun = true) h hturn (fun _ => hturn) fun _ hx => exec_keeps_begun hturn hx

/-! #### The ports -/

/-- The ports show what a step appends to the two logs (10_state.md R40). -/
theorem outputs_of_appended {cs : List Call} {bs : List Byte} (hc : t.calls = s.calls ++ cs)
    (hb : t.txlog = s.txlog ++ bs) :
    Outputs.of s t = ⟨t.result, t.cmdHeld, bs.head?, cs.any Call.isConfigure, cs.contains .serialShutdown,
      cs.contains .timerAttach, cs.findSome? Call.period, cs.contains .timerStop⟩ := by
  simp only [Outputs.of, hc, hb, List.drop_left]

theorem timerPeriod_of_initialize {p : Nat} (hc : t.calls = s.calls ++ [.timerInitialize p]) : t.timerPeriod = p := by
  rw [State.timerPeriod, hc, List.reverse_append]
  rfl

/-- Settles O59: what each event appends to `calls` and `txlog` gives its ports. -/
theorem portsStrobeAsTheRulesSay : Obligations.PortsStrobeAsTheRulesSay := by
  refine ⟨fun s t hr h => ?_, fun s t hb h => ?_, fun s t he hp h => ?_, fun s t pct h => ?_⟩
  · obtain ⟨b, p, bc, cursor, rfl⟩ := execTick_of_running hr h
    exact ⟨b, outputs_of_appended (cs := []) (bs := [b]) (List.append_nil _).symm rfl, rfl⟩
  · rcases execBeginBlock_cases h with ⟨hb', -⟩ | ⟨-, rfl⟩
    · simp [hb] at hb'
    · exact outputs_of_appended (cs := beginCalls) (bs := []) rfl (List.append_nil _).symm
  · rcases execEndBlock_cases h with ⟨he', -⟩ | ⟨he', -⟩ | ⟨-, -, rfl⟩ | ⟨-, hp', -⟩
    · simp [he] at he'
    · simp [he] at he'
    · exact outputs_of_appended (cs := endCalls) (bs := []) rfl (List.append_nil _).symm
    · exact absurd hp hp'
  · cases h
    exact ⟨outputs_of_appended (cs := [.timerInitialize (Config.refreshPeriod pct)]) (bs := []) rfl
      (List.append_nil _).symm, timerPeriod_of_initialize (s := s) rfl⟩

end Sys2Proof.Machine
end

section
/-! ### The wire order, the buffer in flight, DONE, and the agent that moves (20_memory.md R53, R54, R60, R62, R65) -/

namespace Sys2Proof.Machine

variable {i : Instr} {s t : State}

/-! #### The buffer while a frame is in flight -/

/-- Both writers of the buffer, SETCOLOR and END's first step, ask that no frame is in flight. -/
theorem exec_keeps_buffer (hp : s.inFlight = true) (h : exec i s = .next t) : SameBuffer s t := by
  cases exec_effect h with
  | stored _ _ hf => simp [hp] at hf
  | endScheduled _ hf => simp [hp] at hf
  | _ => exact ⟨rfl, fun _ => rfl⟩

/-- Settles O33: no instruction writes the buffer in flight, and an `IllegalCommand` or an idle turn never does. -/
theorem bufferIsStableInFlight : Obligations.BufferIsStableInFlight := by
  intro s t h hp
  have hturn : SameBuffer s s.takeTurn := ⟨rfl, fun _ => rfl⟩
  have hflight : s.takeTurn.inFlight = true := (State.inFlight_iff _).mpr hp
  exact step_preserves (P := SameBuffer s) h hturn (fun _ => hturn) fun _ hx =>
    exec_keeps_buffer (s := s.takeTurn) hflight hx

/-! #### The step of each agent -/

theorem step_of_timer (hf : s.fault = []) (ha : nextAgent s = some .timer) : step s = exec .tick s.takeTurn := by
  rw [step_of_nextAgent hf, ha]
  rfl

theorem step_of_foreground (hf : s.fault = []) (ha : nextAgent s = some .foreground) :
    step s = foregroundStep s.takeTurn := by
  rw [step_of_nextAgent hf, ha]

theorem foregroundStep_of_endPending (he : s.endPending = true) : foregroundStep s = exec .endBlock s := by
  simp [foregroundStep, he]

theorem foregroundStep_of_no_command (he : s.endPending = false) (hc : s.cmdIn = []) : foregroundStep s = .next s := by
  simp [foregroundStep, he, hc]

theorem foregroundStep_of_word {w : CommandWord} {rest : List CommandWord} (he : s.endPending = false)
    (hc : s.cmdIn = w :: rest) : foregroundStep s = issueWord w s := by
  simp [foregroundStep, he, hc]

/-- A port gives exactly the events that it carries (30_encoding.md R78). -/
theorem decodeOn_eq_ok_iff {p : Port} {w : CommandWord} :
    decodeOn p w = .ok i ↔ decode w = .ok i ∧ i.wellFormedOn p = true := by
  unfold decodeOn
  cases decode w with
  | error e => simp
  | ok j =>
    by_cases hj : j.wellFormedOn p = true
    · have hi (h : j = i) : i.wellFormedOn p = true := h ▸ hj
      simpa [hj] using hi
    · have hi (h : j = i) : i.wellFormedOn p = false := by simpa [← h] using hj
      simpa [hj] using hi

theorem issueWord_of_decodeOn {w : CommandWord} (h : decodeOn .cmdIn w = .ok i) : issueWord w s = exec i s := by
  simp [issueWord, h]

/-- Settles O10: the Foreground's step issues its word, which the port decodes to the instruction. -/
theorem stepRunsDecodedCommand : Obligations.StepRunsDecodedCommand := by
  intro s w rest i hf he ha hc hd hw
  calc step s = foregroundStep s.takeTurn := step_of_foreground hf ha
    _ = issueWord w s.takeTurn := foregroundStep_of_word he hc
    _ = exec i s.takeTurn := issueWord_of_decodeOn (decodeOn_eq_ok_iff.mpr ⟨hd, hw⟩)

/-- Settles O11: the Timer's step, and the Foreground's without a word to issue. -/
theorem stepRunsTimerAndWaitingEnd : Obligations.StepRunsTimerAndWaitingEnd := by
  refine fun s hf => ⟨step_of_timer hf, fun ha he => ?_, fun ha he hc => ?_⟩
  · exact (step_of_foreground hf ha).trans (foregroundStep_of_endPending he)
  · exact (step_of_foreground hf ha).trans (foregroundStep_of_no_command he hc)

/-! #### The agent that moves -/

/-- With no order fixed the agent that moves is the enabled one, or the free choice between both. -/
theorem nextAgent_of_unscheduled (hs : s.schedule = []) :
    nextAgent s =
      if s.running then if s.foregroundEnabled then some (Config.freeAgent s.turn) else some .timer
      else if s.foregroundEnabled then some .foreground else none := by
  unfold nextAgent State.timerEnabled
  rw [hs]
  cases s.running <;> cases s.foregroundEnabled <;> rfl

/-- Settles O15: the four cases of which agents have an enabled step; an order is taken by its head. -/
theorem onlyEnabledAgentsMove : Obligations.OnlyEnabledAgentsMove := by
  refine ⟨fun s hs => ?_, fun _ _ => rfl⟩
  rw [nextAgent_of_unscheduled hs]
  cases s.running <;> cases s.foregroundEnabled <;> simp

/-! #### DONE -/

/-- Only a TICK enters DONE: every other effect leaves the phase or goes to IDLE. -/
theorem eq_tick_of_exec_enters_done (h : exec i s = .next t) (hs : s.phase ≠ .done) (ht : t.phase = .done) :
    i = .tick := by
  cases exec_effect h with
  | ticked => rfl
  | shown => nomatch ht
  | endScheduled => nomatch ht
  | _ => exact absurd ht hs

theorem execTick_keeps_done (hp : s.phase = .done) (h : execTick s = .next t) : t.phase = .done := by
  by_cases hr : s.running = true
  · rw [execTick_done hr hp] at h
    cases h
    exact hp
  · rcases execTick_cases h with ⟨-, rfl⟩ | ⟨hr', -⟩
    · exact hp
    · exact absurd hr' hr

/-- Only SHOW and END leave DONE. -/
theorem show_or_end_of_exec_leaves_done (h : exec i s = .next t) (hs : s.phase = .done) (ht : t.phase ≠ .done) :
    i = .showFrame ∨ i = .endBlock := by
  cases exec_effect h with
  | ticked => exact absurd (execTick_keeps_done hs h) ht
  | shown => exact .inl rfl
  | endScheduled => exact .inr rfl
  | _ => exact absurd hs ht

/-- Settles O49: the entries into and exits from DONE per effect; a step of the Timer is a TICK, which leaves it. -/
theorem doneIsLeftOnlyByShowOrEnd : Obligations.DoneIsLeftOnlyByShowOrEnd := by
  refine ⟨fun i s t h => ⟨eq_tick_of_exec_enters_done h, show_or_end_of_exec_leaves_done h⟩, fun s t h ha hp => ?_⟩
  obtain ⟨hf, -⟩ := step_cases h
  rw [step_of_timer hf ha] at h
  exact execTick_keeps_done (s := s.takeTurn) hp h

/-! #### The wire -/

/-- A byte leaves with bit 7 first (20_memory.md R54). -/
theorem byteBits_getElem? (b : Byte) {k : Nat} (hk : k < 8) : (byteBits b)[k]? = some (b.getLsbD (7 - k)) := by
  interval_cases k <;> rfl

theorem highByte_getLsbD (w : Word16) {k : Nat} (hk : k < 8) : (highByte w).getLsbD k = w.getLsbD (8 + k) := by
  simp [highByte, hk]

theorem lowByte_getLsbD (w : Word16) {k : Nat} (hk : k < 8) : (lowByte w).getLsbD k = w.getLsbD k := by
  simp [lowByte, hk]

/-- Settles O6: the first eight bits are the high byte's, the others the low byte's. -/
theorem wireSendsBitFifteenFirst : Obligations.WireSendsBitFifteenFirst := by
  intro w k hk
  have hbits : wireBits (wordBytes w) = byteBits (highByte w) ++ byteBits (lowByte w) := rfl
  have hlen : (byteBits (highByte w)).length = 8 := rfl
  rw [hbits]
  by_cases h8 : k < 8
  · rw [List.getElem?_append_left (by omega), byteBits_getElem? _ h8, highByte_getLsbD w (by omega),
      show 8 + (7 - k) = 15 - k by omega]
  · rw [List.getElem?_append_right (by omega), hlen, byteBits_getElem? _ (by omega), lowByte_getLsbD w (by omega),
      show 7 - (k - 8) = 15 - k by omega]

end Sys2Proof.Machine
end

section
/-! ### The decoder and the encoder (30_encoding.md R70 to R78, R86) -/

namespace Sys2Proof

variable {f : CommandFields} {i j : Instr} {w : CommandWord}

/-! #### Operands in the data field -/

@[simp] theorem dataRed_rgbData (r g b : Byte) : dataRed (rgbData r g b) = r := by
  apply BitVec.eq_of_toNat_eq
  rw [dataRed, extract_toNat, rgbData_toNat]
  omega

@[simp] theorem dataGreen_rgbData (r g b : Byte) : dataGreen (rgbData r g b) = g := by
  apply BitVec.eq_of_toNat_eq
  rw [dataGreen, extract_toNat, rgbData_toNat]
  omega

@[simp] theorem dataLow_rgbData (r g b : Byte) : dataLow (rgbData r g b) = b := by
  apply BitVec.eq_of_toNat_eq
  rw [dataLow, extract_toNat, rgbData_toNat]
  omega

@[simp] theorem dataWord_rawData (word : Word16) : dataWord (rawData word) = word := by
  apply BitVec.eq_of_toNat_eq
  rw [dataWord, extract_toNat, rawData_toNat]
  omega

@[simp] theorem dataLow_pctData (pct : Byte) : dataLow (pctData pct) = pct := by
  apply BitVec.eq_of_toNat_eq
  rw [dataLow, extract_toNat, pctData_toNat]
  omega

theorem extract_eq_zero_iff {n : Nat} (x : BitVec n) (lo k : Nat) :
    x.extractLsb' lo k = 0#k ↔ x.toNat / 2 ^ lo % 2 ^ k = 0 := by
  rw [← BitVec.toNat_inj, extract_toNat, BitVec.toNat_zero]

/-- The operands of SETCOLOR.RGB are the whole data field exactly when its reserved bits are 0 (R73, R76). -/
theorem rgbData_fields_iff (d : BitVec 32) :
    rgbData (dataRed d) (dataGreen d) (dataLow d) = d ↔ d.extractLsb' 24 8 = 0#8 := by
  rw [extract_eq_zero_iff, ← BitVec.toNat_inj, rgbData_toNat, dataRed, dataGreen, dataLow, extract_toNat, extract_toNat,
    extract_toNat]
  omega

/-- The operand of SETCOLOR.RAW is the whole data field exactly when its reserved bits are 0 (R74, R76). -/
theorem rawData_field_iff (d : BitVec 32) : rawData (dataWord d) = d ↔ d.extractLsb' 16 16 = 0#16 := by
  rw [extract_eq_zero_iff, ← BitVec.toNat_inj, rawData_toNat, dataWord, extract_toNat]
  omega

/-- The operand of SETREFRESHRATE is the whole data field exactly when its reserved bits are 0 (R75, R76). -/
theorem pctData_field_iff (d : BitVec 32) : pctData (dataLow d) = d ↔ d.extractLsb' 8 24 = 0#24 := by
  rw [extract_eq_zero_iff, ← BitVec.toNat_inj, pctData_toNat, dataLow, extract_toNat]
  omega

/-! #### Decoding and encoding -/

theorem ifReservedClear_eq_ok_iff {op : Byte} {clear : Bool} :
    ifReservedClear op clear j = .ok i ↔ clear = true ∧ j = i := by
  unfold ifReservedClear
  cases clear <;> simp

/-- Decoding the fields of an instruction gives the instruction back. -/
theorem decodeFields_encodeFields (i : Instr) : decodeFields (encodeFields i) = .ok i := by
  cases i with
  | setColorRgb index r g b =>
    have hres : (rgbData r g b).extractLsb' 24 8 = 0#8 := by
      simp [← rgbData_fields_iff]
    simp [decodeFields, encodeFields, ifReservedClear_eq_ok_iff, hres]
  | setColorRaw index word =>
    have hres : (rawData word).extractLsb' 16 16 = 0#16 := by
      simp [← rawData_field_iff]
    simp [decodeFields, encodeFields, ifReservedClear_eq_ok_iff, hres]
  | setRefreshRate pct =>
    have hres : (pctData pct).extractLsb' 8 24 = 0#24 := by
      simp [← pctData_field_iff]
    simp [decodeFields, encodeFields, ifReservedClear_eq_ok_iff, hres]
  | _ => rfl

/-- A word without operands has nothing but its `op` (R76). -/
theorem encodeFields_of_noOperands {op c z0 : Byte} {index : Word16} {data : BitVec 32}
    (hj : encodeFields j = ⟨c, 0#8, 0#16, 0#32⟩) (hop : op = c)
    (h : ifReservedClear op (z0 == 0#8 && index == 0#16 && data == 0#32) j = .ok i) :
    encodeFields i = ⟨op, z0, index, data⟩ := by
  obtain ⟨hclear, rfl⟩ := ifReservedClear_eq_ok_iff.mp h
  simp only [Bool.and_eq_true, beq_iff_eq] at hclear
  obtain ⟨⟨rfl, rfl⟩, rfl⟩ := hclear
  rw [hj, hop]

/-- The fields that decode to an instruction are the instruction's: no reserved bit is ignored (R76). -/
theorem encodeFields_of_decodeFields (h : decodeFields f = .ok i) : encodeFields i = f := by
  obtain ⟨op, z0, index, data⟩ := f
  simp only [decodeFields] at h
  split_ifs at h with htick hshow hflush hrgb hraw hget hcount hbegin hend hrate
  · exact encodeFields_of_noOperands rfl htick h
  · exact encodeFields_of_noOperands rfl hshow h
  · exact encodeFields_of_noOperands rfl hflush h
  · simp only [ifReservedClear_eq_ok_iff, Bool.and_eq_true, beq_iff_eq] at h
    obtain ⟨⟨rfl, hres⟩, rfl⟩ := h
    rw [encodeFields, (rgbData_fields_iff data).mpr hres, hrgb]
  · simp only [ifReservedClear_eq_ok_iff, Bool.and_eq_true, beq_iff_eq] at h
    obtain ⟨⟨rfl, hres⟩, rfl⟩ := h
    rw [encodeFields, (rawData_field_iff data).mpr hres, hraw]
  · simp only [ifReservedClear_eq_ok_iff, Bool.and_eq_true, beq_iff_eq] at h
    obtain ⟨⟨rfl, rfl⟩, rfl⟩ := h
    rw [encodeFields, hget]
  · exact encodeFields_of_noOperands rfl hcount h
  · exact encodeFields_of_noOperands rfl hbegin h
  · exact encodeFields_of_noOperands rfl hend h
  · simp only [ifReservedClear_eq_ok_iff, Bool.and_eq_true, beq_iff_eq] at h
    obtain ⟨⟨⟨rfl, rfl⟩, hres⟩, rfl⟩ := h
    rw [encodeFields, (pctData_field_iff data).mpr hres, hrate]

/-- A word decodes to an instruction exactly when it is the instruction's word. -/
theorem decode_eq_ok_iff : decode w = .ok i ↔ encode i = w := by
  constructor
  · intro h
    rw [encode, encodeFields_of_decodeFields h, wordOf_fieldsOf]
  · rintro rfl
    rw [decode, encode, fieldsOf_wordOf, decodeFields_encodeFields]

/-- Settles O1, the direction of `decode_eq_ok_iff` from the word. -/
theorem decodeEncodeRoundTrip : Obligations.DecodeEncodeRoundTrip := fun _ => decode_eq_ok_iff.mpr rfl

/-- Settles O3: a word that does not decode is no instruction's, and a reserved `op` passes every test of the map. -/
theorem reservedOpcodesSpellNothing : Obligations.ReservedOpcodesSpellNothing := by
  refine ⟨fun w => ?_, fun w hop => ?_⟩
  · cases hd : decode w with
    | ok i => exact .inl ⟨i, rfl, decode_eq_ok_iff.mp hd⟩
    | error e =>
      refine .inr ⟨e, rfl, fun i hi => ?_⟩
      rw [decode_eq_ok_iff.mpr hi] at hd
      cases hd
  · simp only [List.mem_cons, List.not_mem_nil, or_false, not_or] at hop
    simp [decode, decodeFields, hop]

/-- Settles O4: the decoder run on each word. -/
theorem specWordsDecode : Obligations.SpecWordsDecode := by
  unfold Obligations.SpecWordsDecode
  decide

/-! #### The opcode table -/

theorem Instr.row_mem_opcodeTable (i : Instr) : i.row ∈ opcodeTable := by
  cases i <;> simp [opcodeTable, Instr.row]

theorem Instr.row_covers_encode (i : Instr) : i.row.covers (encode i) = true := by
  cases i with
  | tick => exact Laws.TableRow.tick
  | showFrame => exact Laws.TableRow.showFrame
  | flush => exact Laws.TableRow.flush
  | setColorRgb index r g b => exact Laws.TableRow.setColorRgb index r g b
  | setColorRaw index word => exact Laws.TableRow.setColorRaw index word
  | getPixel index => exact Laws.TableRow.getPixel index
  | pixelCount => exact Laws.TableRow.pixelCount
  | beginBlock => exact Laws.TableRow.beginBlock
  | endBlock => exact Laws.TableRow.endBlock
  | setRefreshRate pct => exact Laws.TableRow.setRefreshRate pct

/-- A row whose mask and pattern are the words of `m` and `p` covers a word exactly when it does so field by field. -/
theorem OpcodeRow.covers_iff_fields {r : OpcodeRow} (m p : CommandFields) (hm : r.mask = wordOf m)
    (hp : r.pattern = wordOf p) :
    r.covers (wordOf f) = true ↔
      f.op &&& m.op = p.op ∧ f.z0 &&& m.z0 = p.z0 ∧ f.index &&& m.index = p.index ∧ f.data &&& m.data = p.data := by
  rw [OpcodeRow.covers, beq_iff_eq, hm, hp, Laws.TableRow.wordOf_and]
  constructor
  · intro h
    have hfields := congrArg fieldsOf h
    rw [fieldsOf_wordOf, fieldsOf_wordOf] at hfields
    rw [← hfields]
    exact ⟨rfl, rfl, rfl, rfl⟩
  · rintro ⟨hop, hz, hi, hd⟩
    rw [hop, hz, hi, hd]

theorem OpcodeRow.eq_pattern_of_covers {r : OpcodeRow} (hm : r.mask = BitVec.allOnes 64) (h : r.covers w = true) :
    w = r.pattern := by
  rw [OpcodeRow.covers, beq_iff_eq, hm, BitVec.and_allOnes] at h
  exact h

theorem eq_of_and_allOnes {n : Nat} {x m p : BitVec n} (hm : m = BitVec.allOnes n) (h : x &&& m = p) : x = p := by
  rw [← h, hm, BitVec.and_allOnes]

/-- The bits of a field that a mask covers are 0 where the word under the mask is 0. -/
theorem extract_eq_zero_of_and {n lo k : Nat} {x m : BitVec n} (hm : m.extractLsb' lo k = BitVec.allOnes k)
    (h : x &&& m = 0#n) : x.extractLsb' lo k = 0#k := by
  calc x.extractLsb' lo k = x.extractLsb' lo k &&& m.extractLsb' lo k := by rw [hm, BitVec.and_allOnes]
    _ = (x &&& m).extractLsb' lo k := BitVec.extractLsb'_and.symm
    _ = 0#k := by rw [h, BitVec.extractLsb'_zero]

theorem encode_eq_wordOf (hop : f.op = (encodeFields i).op) (hz : f.z0 = (encodeFields i).z0)
    (hi : f.index = (encodeFields i).index) (hd : (encodeFields i).data = f.data) : encode i = wordOf f := by
  rw [encode, wordOf, wordOf, hop, hz, hi, hd]

/-- A word of an instruction's row is the word of an instruction: the mask leaves free only the operands' bits (R76). -/
theorem exists_encode_of_covers (h : i.row.covers w = true) : ∃ j, encode j = w := by
  obtain ⟨f, rfl⟩ : ∃ f, w = wordOf f := ⟨fieldsOf w, (wordOf_fieldsOf w).symm⟩
  cases i with
  | setColorRgb =>
    obtain ⟨hop, hz, -, hd⟩ :=
      (OpcodeRow.covers_iff_fields ⟨0xFF, 0xFF, 0, 0xFF000000⟩ ⟨0x20, 0, 0, 0⟩ rfl rfl).mp h
    exact ⟨.setColorRgb f.index (dataRed f.data) (dataGreen f.data) (dataLow f.data),
      encode_eq_wordOf (eq_of_and_allOnes rfl hop) (eq_of_and_allOnes rfl hz) rfl
        ((rgbData_fields_iff f.data).mpr (extract_eq_zero_of_and rfl hd))⟩
  | setColorRaw =>
    obtain ⟨hop, hz, -, hd⟩ :=
      (OpcodeRow.covers_iff_fields ⟨0xFF, 0xFF, 0, 0xFFFF0000⟩ ⟨0x21, 0, 0, 0⟩ rfl rfl).mp h
    exact ⟨.setColorRaw f.index (dataWord f.data),
      encode_eq_wordOf (eq_of_and_allOnes rfl hop) (eq_of_and_allOnes rfl hz) rfl
        ((rawData_field_iff f.data).mpr (extract_eq_zero_of_and rfl hd))⟩
  | getPixel =>
    obtain ⟨hop, hz, -, hd⟩ :=
      (OpcodeRow.covers_iff_fields ⟨0xFF, 0xFF, 0, 0xFFFFFFFF⟩ ⟨0x22, 0, 0, 0⟩ rfl rfl).mp h
    exact ⟨.getPixel f.index,
      encode_eq_wordOf (eq_of_and_allOnes rfl hop) (eq_of_and_allOnes rfl hz) rfl (eq_of_and_allOnes rfl hd).symm⟩
  | setRefreshRate =>
    obtain ⟨hop, hz, hi, hd⟩ :=
      (OpcodeRow.covers_iff_fields ⟨0xFF, 0xFF, 0xFFFF, 0xFFFFFF00⟩ ⟨0x32, 0, 0, 0⟩ rfl rfl).mp h
    exact ⟨.setRefreshRate (dataLow f.data),
      encode_eq_wordOf (eq_of_and_allOnes rfl hop) (eq_of_and_allOnes rfl hz) (eq_of_and_allOnes rfl hi)
        ((pctData_field_iff f.data).mpr (extract_eq_zero_of_and rfl hd))⟩
  | tick => exact ⟨.tick, (OpcodeRow.eq_pattern_of_covers rfl h).symm⟩
  | showFrame => exact ⟨.showFrame, (OpcodeRow.eq_pattern_of_covers rfl h).symm⟩
  | flush => exact ⟨.flush, (OpcodeRow.eq_pattern_of_covers rfl h).symm⟩
  | pixelCount => exact ⟨.pixelCount, (OpcodeRow.eq_pattern_of_covers rfl h).symm⟩
  | beginBlock => exact ⟨.beginBlock, (OpcodeRow.eq_pattern_of_covers rfl h).symm⟩
  | endBlock => exact ⟨.endBlock, (OpcodeRow.eq_pattern_of_covers rfl h).symm⟩

theorem exists_row_of_mem_opcodeTable {r : OpcodeRow} (h : r ∈ opcodeTable) : ∃ i : Instr, r = i.row := by
  have hrows : opcodeTable = [Instr.tick, .showFrame, .flush, .setColorRgb 0 0 0 0, .setColorRaw 0 0, .getPixel 0,
    .pixelCount, .beginBlock, .endBlock, .setRefreshRate 0].map Instr.row := rfl
  rw [hrows] at h
  obtain ⟨i, -, hi⟩ := List.mem_map.mp h
  exact ⟨i, hi.symm⟩

/-- Every row's mask covers `op`. -/
theorem opcodeTable_masks_op : ∀ r ∈ opcodeTable, (fieldsOf r.mask).op = BitVec.allOnes 8 := by
  decide

/-- `op` alone tells the rows of the table apart (R71). -/
theorem opcodeTable_eq_of_op : ∀ r ∈ opcodeTable, ∀ r' ∈ opcodeTable,
    (fieldsOf r.pattern).op = (fieldsOf r'.pattern).op → r = r' := by
  decide

theorem op_of_covers {r : OpcodeRow} (hr : r ∈ opcodeTable) (h : r.covers w = true) :
    (fieldsOf w).op = (fieldsOf r.pattern).op := by
  rw [← wordOf_fieldsOf w] at h
  obtain ⟨hop, -⟩ := (OpcodeRow.covers_iff_fields (fieldsOf r.mask) (fieldsOf r.pattern) (wordOf_fieldsOf _).symm
    (wordOf_fieldsOf _).symm).mp h
  exact eq_of_and_allOnes (opcodeTable_masks_op r hr) hop

/-- Settles O2: the words of a row are the words of instructions, and two rows that cover a word have its `op`. -/
theorem decoderAgreesWithOpcodeTable : Obligations.DecoderAgreesWithOpcodeTable := by
  refine fun w => ⟨⟨?_, ?_⟩, fun r hr r' hr' h h' => ?_⟩
  · rintro ⟨i, hi⟩
    rw [decode_eq_ok_iff] at hi
    exact ⟨i.row, i.row_mem_opcodeTable, hi ▸ i.row_covers_encode⟩
  · rintro ⟨r, hr, h⟩
    obtain ⟨i, rfl⟩ := exists_row_of_mem_opcodeTable hr
    obtain ⟨j, hj⟩ := exists_encode_of_covers h
    exact ⟨j, decode_eq_ok_iff.mpr hj⟩
  · exact opcodeTable_eq_of_op r hr r' hr' ((op_of_covers hr h).symm.trans (op_of_covers hr' h'))

/-! #### The assembler (30_encoding.md R84 to R86) -/

open Machine

/-- An instruction's word as a number: `op` in 63:56, the index in 47:32 and the data in 31:0 (R70). -/
theorem encode_toNat (i : Instr) :
    (encode i).toNat = (encodeFields i).op.toNat * 2 ^ 56 + (encodeFields i).index.toNat * 2 ^ 32 +
      (encodeFields i).data.toNat := by
  have hz : (encodeFields i).z0 = 0#8 := by cases i <;> rfl
  rw [encode, wordOf_toNat, hz]
  simp

/-- The word of an instruction is the word of a number that its fields make up. -/
theorem encode_eq_ofNat {n : Nat} (h : (encodeFields i).op.toNat * 2 ^ 56 + (encodeFields i).index.toNat * 2 ^ 32 +
    (encodeFields i).data.toNat = n) : encode i = BitVec.ofNat 64 n := by
  rw [← h, ← encode_toNat, BitVec.ofNat_toNat, BitVec.setWidth_eq]

theorem assemble_eq_ite (l : AsmLine) {P : Prop} [Decidable P] {v : CommandWord} (hwf : l.wellFormed = true ↔ P)
    (hv : P → encode (asmInstr l) = v) : assemble l = if P then some v else none := by
  unfold assemble
  by_cases hP : P
  · rw [if_pos hP, if_pos (hwf.mpr hP), hv hP]
  · rw [if_neg hP, if_neg fun h => hP (hwf.mp h)]

/-- Settles O7: in range, the operands of a line are the numbers of its instruction's fields. -/
theorem assemblerRefusesOutOfRange : Obligations.AssemblerRefusesOutOfRange := by
  refine ⟨fun index r g b => ?_, fun index word => ?_, fun index => ?_, fun pct => ?_, rfl, rfl, rfl, rfl, rfl, rfl, rfl⟩
  · refine assemble_eq_ite _ (by simp [AsmLine.wellFormed, and_assoc]) fun hrange => encode_eq_ofNat ?_
    simp only [asmInstr, encodeFields, rgbData_toNat, BitVec.toNat_ofNat]
    omega
  · refine assemble_eq_ite _ (by simp [AsmLine.wellFormed]) fun hrange => encode_eq_ofNat ?_
    simp only [asmInstr, encodeFields, rawData_toNat, BitVec.toNat_ofNat]
    omega
  · refine assemble_eq_ite _ (by simp [AsmLine.wellFormed]) fun hrange => encode_eq_ofNat ?_
    simp only [asmInstr, encodeFields, BitVec.toNat_ofNat]
    omega
  · refine assemble_eq_ite _ (by simp [AsmLine.wellFormed]) fun hrange => encode_eq_ofNat ?_
    simp only [asmInstr, encodeFields, pctData_toNat, BitVec.toNat_ofNat]
    omega

end Sys2Proof
end

section
/-! ### Pixel words, the TICK word, and the bytes of TICK (30_encoding.md R78, R81, R82) -/

namespace Sys2Proof.Machine

variable {s t : State}

/-! #### Unpacking a pixel word -/

theorem redOf_toNat (w : Word16) : (redOf w).toNat = w.toNat % 32 := by
  rw [redOf, extract_toNat]
  omega

theorem blueOf_toNat (w : Word16) : (blueOf w).toNat = w.toNat / 32 % 32 := extract_toNat w 5 5

theorem greenOf_toNat (w : Word16) : (greenOf w).toNat = w.toNat / 1024 % 32 := extract_toNat w 10 5

/-- Settles O5: the fields of a word and of `pack` as numbers. -/
theorem unpackOfPackIsMaskedColour : Obligations.UnpackOfPackIsMaskedColour := by
  refine ⟨fun w => ⟨redOf_toNat w, blueOf_toNat w, greenOf_toNat w, markerOf_iff w⟩, fun r g b => ?_⟩
  rw [redOf_toNat, greenOf_toNat, blueOf_toNat, markerOf_iff, pack_toNat]
  omega

/-! #### The TICK word and the Timer's TICK -/

theorem execTick_stopped (hr : s.running = false) : execTick s = .next (s.raiseFault (.tickWhileStopped s.phase)) := by
  simp [execTick, hr]

theorem issueWord_of_decodeOn_error {w : CommandWord} {e : DecodeError} (h : decodeOn .cmdIn w = .error e) :
    issueWord w s = .next (s.raiseFault (.illegalCommand w)) := by
  simp [issueWord, h]

/-- With none recorded before, a fault raised in a turn is the one recorded, and the block is as before the turn. -/
theorem raiseFault_takeTurn (hf : s.fault = []) (r : FaultRecord) :
    (s.takeTurn.raiseFault r).fault = [r] ∧ SameBlock s (s.takeTurn.raiseFault r) :=
  ⟨by simp [hf, addFault_nil], sameBlock_raiseFault s.takeTurn r⟩

/-- Settles O13: the ports by the events that they carry, and the two faults by the agent's step. -/
theorem tickComesOnlyFromTheTimer : Obligations.TickComesOnlyFromTheTimer := by
  refine ⟨rfl, fun w h => ?_, fun w i h => ?_, fun s hf ha hr => ?_, fun s rest hf he ha hc => ?_⟩
  · obtain ⟨-, hport⟩ := decodeOn_eq_ok_iff.mp h
    cases hport
  · obtain ⟨-, hport⟩ := decodeOn_eq_ok_iff.mp h
    cases i with
    | tick => rfl
    | _ => cases hport
  · refine ⟨_, ?_, raiseFault_takeTurn hf _⟩
    exact (step_of_timer hf ha).trans (execTick_stopped (s := s.takeTurn) hr)
  · refine ⟨_, ?_, raiseFault_takeTurn hf _⟩
    calc step s = foregroundStep s.takeTurn := step_of_foreground hf ha
      _ = issueWord 0x0100000000000000 s.takeTurn := foregroundStep_of_word he hc
      _ = _ := issueWord_of_decodeOn_error (e := .wrongPort .cmdIn) rfl

/-! #### The byte a TICK emits -/

theorem execTick_idle (hr : s.running = true) (hp : s.phase = .idle) : execTick s = .next (tickIdle s) := by
  simp [execTick, hr, hp]

theorem tickIdle_txlog (s : State) : (tickIdle s).txlog = s.txlog ++ [0x00#8] := by
  rw [tickIdle_eq]
  split <;> rfl

theorem tickHeader_txlog (s : State) : (tickHeader s).txlog = s.txlog ++ [0x00#8] := by
  rw [tickHeader_eq]
  split <;> rfl

theorem tickHigh_txlog (s : State) (w : Word16) : (tickHigh s w).txlog = s.txlog ++ [highByte w] := rfl

theorem tickLow_txlog (s : State) (w : Word16) : (tickLow s w).txlog = s.txlog ++ [lowByte w] := by
  rw [tickLow_eq]
  split <;> rfl

/-- Outside DATA a running TICK emits a zero byte (41_sequencer.md R132, R134, R137). -/
theorem execTick_emits_zero (hr : s.running = true) (hp : s.phase ≠ .data) :
    ∃ t, execTick s = .next t ∧ t.txlog = s.txlog ++ [0x00#8] := by
  cases h : s.phase with
  | idle => exact ⟨_, execTick_idle hr h, tickIdle_txlog s⟩
  | header => exact ⟨_, execTick_header hr h, tickHeader_txlog s⟩
  | data => exact absurd h hp
  | done => exact ⟨_, execTick_done hr h, rfl⟩

/-- A running TICK in DATA emits the high byte of the cursor's pixel where `bc` is even and its low byte where `bc` is
odd (41_sequencer.md R135, R136). -/
theorem execTick_emits_pixel_byte (hr : s.running = true) (hp : s.phase = .data)
    (hlt : s.cursor.toNat < s.numLeds.toNat) :
    ∃ t, execTick s = .next t ∧ t.txlog = s.txlog ++
      [if s.bc.toNat % 2 = 1 then lowByte (s.pixel s.cursor.toNat) else highByte (s.pixel s.cursor.toNat)] := by
  rw [execTick_data hr hp hlt, getLsbD_zero_eq]
  by_cases hodd : s.bc.toNat % 2 = 1
  · exact ⟨_, if_pos (decide_eq_true hodd), by rw [tickLow_txlog, if_pos hodd]⟩
  · exact ⟨_, if_neg (by simpa using hodd), by rw [tickHigh_txlog, if_neg hodd]⟩

/-- The marker is bit 7 of the high byte (30_encoding.md R79, R82). -/
theorem highByte_getLsbD_seven (w : Word16) : (highByte w).getLsbD 7 = markerOf w := highByte_getLsbD w (by decide)

/-- A pixel word with the marker and a given low byte. -/
def markedWord (v : Byte) : Word16 := 0x80#8 ++ v

theorem markedWord_toNat (v : Byte) : (markedWord v).toNat = 32768 + v.toNat := append_toNat 0x80#8 v

theorem markerOf_markedWord (v : Byte) : markerOf (markedWord v) = true := by
  rw [markerOf_iff, markedWord_toNat]
  omega

theorem lowByte_markedWord (v : Byte) : lowByte (markedWord v) = v := by
  apply BitVec.eq_of_toNat_eq
  rw [lowByte_toNat, markedWord_toNat]
  omega

/-- A running block of one LED whose pixel has the low byte `v`, about to send it. -/
def beforeLowByte (v : Byte) : State :=
  { (State.constructed 1).memWrite 0 (markedWord v) with phase := .data, bc := 1, running := true, begun := true }

theorem pixel_beforeLowByte (v : Byte) : (beforeLowByte v).pixel 0 = markedWord v :=
  State.pixel_memWrite_same (State.constructed 1) 0 (markedWord v) rfl

theorem blockInv_beforeLowByte (v : Byte) : BlockInv (beforeLowByte v) := by
  have hbuf : BufferInv (beforeLowByte v) :=
    ⟨show (1 : Word16) ≠ 0 by decide, Memory.wf_writeWord _ _ rfl, Memory.within_writeWord _ Nat.zero_lt_one rfl⟩
  have hm : MarkersSet (beforeLowByte v) := by
    intro i hi
    obtain rfl : i = 0 := Nat.lt_one_iff.mp hi
    rw [pixel_beforeLowByte]
    exact markerOf_markedWord v
  exact (blockInv_iff _).mpr ⟨hbuf, hm, ⟨Nat.zero_le _, fun _ => Nat.zero_lt_one, nofun, fun _ => rfl⟩,
    ⟨fun _ => rfl, fun _ => rfl⟩, rfl, Nat.zero_le _⟩

/-- Settles O42: the byte of each phase, and a pixel with each low byte. -/
theorem onlyHighBytesCarryTheMarker : Obligations.OnlyHighBytesCarryTheMarker := by
  refine ⟨fun s hinv hr => ?_, fun v => ?_⟩
  · obtain ⟨-, hmark, hseq, -, -⟩ := (blockInv_iff s).mp hinv
    by_cases hp : s.phase = .data
    · have hlt := hseq.cursor_lt hp
      obtain ⟨t, hexec, hlog⟩ := execTick_emits_pixel_byte hr hp hlt
      refine ⟨t, _, hexec, hlog, absurd hp, fun _ heven => ?_, fun _ hodd => ?_⟩
      · rw [if_neg (by omega)]
        exact ⟨highByte_toNat _, (highByte_getLsbD_seven _).trans (hmark _ hlt)⟩
      · rw [if_pos hodd]
        exact lowByte_toNat _
    · obtain ⟨t, hexec, hlog⟩ := execTick_emits_zero hr hp
      exact ⟨t, _, hexec, hlog, fun _ => rfl, fun h => absurd h hp, fun h => absurd h hp⟩
  · obtain ⟨t, hexec, hlog⟩ := execTick_emits_pixel_byte (s := beforeLowByte v) rfl rfl Nat.zero_lt_one
    have hlow : t.txlog = (beforeLowByte v).txlog ++ [lowByte ((beforeLowByte v).pixel 0)] := hlog
    rw [pixel_beforeLowByte, lowByte_markedWord] at hlow
    exact ⟨beforeLowByte v, t, blockInv_beforeLowByte v, rfl, rfl, rfl, hexec, hlow⟩

end Sys2Proof.Machine
end

section
/-! ### SETCOLOR, GET and PIXELCOUNT (40_pixel_buffer.md R100 to R107) -/

namespace Sys2Proof.Machine

variable {i : Instr} {s t : State} {index w : Word16}

/-! #### SETCOLOR -/

theorem exec_of_isSetColor (hi : IsSetColor i index w) (s : State) : exec i s = setColor i index w s := by
  obtain ⟨r, g, b, rfl, rfl⟩ | ⟨word, rfl, rfl⟩ := hi <;> rfl

/-- Each form asks to store some word. -/
theorem exists_isSetColor (hi : (∃ r g b, i = .setColorRgb index r g b) ∨ ∃ word, i = .setColorRaw index word) :
    ∃ w, IsSetColor i index w := by
  obtain ⟨r, g, b, rfl⟩ | ⟨word, rfl⟩ := hi
  · exact ⟨pack r g b, .inl ⟨r, g, b, rfl, rfl⟩⟩
  · exact ⟨markRaw word, .inr ⟨word, rfl, rfl⟩⟩

theorem setColor_outside (hge : s.numLeds.toNat ≤ index.toNat) : setColor i index w s = .next s.retire := by
  have hout : ¬ s.inBuffer index = true := by simpa [State.inBuffer_iff] using hge
  exact if_neg hout

theorem setColor_inFlight (hlt : index.toNat < s.numLeds.toNat) (hf : s.inFlight = true) :
    setColor i index w s = .next (s.raiseFault (.midFrameWrite (encode i) s.phase)) := by
  simp [setColor, (s.inBuffer_iff index).mpr hlt, hf]

theorem setColor_stores (hlt : index.toNat < s.numLeds.toNat) (hf : s.inFlight = false) :
    setColor i index w s = .next (s.memWrite index w).retire := by
  simp [setColor, (s.inBuffer_iff index).mpr hlt, hf]

theorem sameBufferBut_memWrite (s : State) (index w : Word16) : SameBufferBut index.toNat s (s.memWrite index w) :=
  ⟨rfl, fun _ => Memory.readByte_writeWord_other w s.pix⟩

/-- Either form, in range and outside a frame, stores its word and changes nothing else of the block. -/
theorem exec_setColor_stores (hi : IsSetColor i index w) (hwf : s.pix.wf = true)
    (hlt : index.toNat < s.numLeds.toNat) (hp : s.phase = .idle ∨ s.phase = .done) :
    ∃ t, exec i s = .next t ∧ t.pixel index.toNat = w ∧ SameBufferBut index.toNat s t ∧ SameSequencer s t ∧
      SameControl s t ∧ SameValues s t ∧ SameOutputs s t ∧ t.fault = s.fault :=
  ⟨(s.memWrite index w).retire, (exec_of_isSetColor hi s).trans (setColor_stores hlt (s.not_inFlight_iff.mpr hp)),
    s.pixel_memWrite_same index w hwf, sameBufferBut_memWrite s index w, ⟨rfl, rfl, rfl, rfl⟩, ⟨rfl, rfl, rfl⟩,
    ⟨rfl, rfl, rfl⟩, ⟨rfl, rfl⟩, rfl⟩

theorem pack_eq_ofNat (r g b : Byte) :
    pack r g b = BitVec.ofNat 16 (32768 + g.toNat % 32 * 1024 + b.toNat % 32 * 32 + r.toNat % 32) := by
  rw [← pack_toNat, BitVec.ofNat_toNat, BitVec.setWidth_eq]

theorem markRaw_eq_ofNat (word : Word16) : markRaw word = BitVec.ofNat 16 (32768 + word.toNat % 32768) := by
  rw [← markRaw_toNat, BitVec.ofNat_toNat, BitVec.setWidth_eq]

/-- Settles O25: the word stored is `pack`'s. -/
theorem setColorRgbStoresPackedWord : Obligations.SetColorRgbStoresPackedWord := by
  intro s index r g b hwf hlt hp
  rw [← pack_eq_ofNat]
  exact exec_setColor_stores (.inl ⟨r, g, b, rfl, rfl⟩) hwf hlt hp

/-- Settles O26: the word stored is `markRaw`'s. -/
theorem setColorRawStoresMarkedWord : Obligations.SetColorRawStoresMarkedWord := by
  intro s index word hwf hlt hp
  rw [← markRaw_eq_ofNat]
  exact exec_setColor_stores (.inr ⟨word, rfl, rfl⟩) hwf hlt hp

theorem sameBlock_retire (s : State) : SameBlock s s.retire :=
  ⟨⟨rfl, rfl, rfl, rfl⟩, ⟨rfl, rfl, rfl⟩, ⟨rfl, rfl, rfl⟩, ⟨rfl, rfl⟩, rfl, fun _ => rfl⟩

/-- Settles O27: outside the buffer `setColor` never comes to the phase, and inside it the phase decides. -/
theorem boundIsCheckedBeforePhase : Obligations.BoundIsCheckedBeforePhase := by
  intro s index i hform
  obtain ⟨w, hi⟩ := exists_isSetColor hform
  rw [exec_of_isSetColor hi]
  refine ⟨fun hge => ⟨_, setColor_outside hge, sameBlock_retire s, rfl⟩, fun hlt hp hf => ?_⟩
  exact ⟨_, setColor_inFlight hlt (s.inFlight_iff.mpr hp), sameBlock_raiseFault s _, by simp [hf, addFault_nil]⟩

/-! #### What no instruction changes -/

theorem exec_keeps_numLeds (h : exec i s = .next t) : t.numLeds = s.numLeds := by
  cases exec_effect h <;> rfl

/-- The writers of the buffer, SETCOLOR and END's first step, write words at indices below N. -/
theorem exec_keeps_bytes_outside {a : Nat} (ha : 2 * s.numLeds.toNat ≤ a) (h : exec i s = .next t) :
    t.pix.readByte a = s.pix.readByte a := by
  cases exec_effect h with
  | stored _ hlt => exact Memory.readByte_writeWord_other _ _ (by omega) (by omega)
  | endScheduled => exact Memory.readByte_clearWords_other ha _
  | _ => rfl

/-- Settles O29, as no instruction at all writes a byte outside the buffer. -/
theorem setColorStaysInsideBuffer : Obligations.SetColorStaysInsideBuffer :=
  fun _ _ _ _ _ h => ⟨exec_keeps_numLeds h, fun _ ha => exec_keeps_bytes_outside ha h⟩

/-! #### GET and PIXELCOUNT -/

theorem execGetPixel_inside (hlt : index.toNat < s.numLeds.toNat) :
    execGetPixel index s = .next (s.giveResult (s.pixel index.toNat)).retire := by
  simp [execGetPixel, State.memRead_eq_some.mpr ⟨hlt, rfl⟩]

theorem execGetPixel_outside (hge : s.numLeds.toNat ≤ index.toNat) :
    execGetPixel index s = .next (s.raiseFault (.getOutOfRange index)) := by
  simp [execGetPixel, State.memRead_eq_none.mpr hge]

/-- A command that returns a value changes nothing of the block but `result` and the values returned. -/
theorem giveResult_retire_frame (s : State) (v : Word16) :
    (s.giveResult v).retire.rateReq = s.rateReq ∧ SameSequencer s (s.giveResult v).retire ∧
      SameControl s (s.giveResult v).retire ∧ SameOutputs s (s.giveResult v).retire ∧
      SameBuffer s (s.giveResult v).retire ∧ (s.giveResult v).retire.fault = s.fault :=
  ⟨rfl, ⟨rfl, rfl, rfl, rfl⟩, ⟨rfl, rfl, rfl⟩, ⟨rfl, rfl⟩, ⟨rfl, fun _ => rfl⟩, rfl⟩

/-- Settles O30: the value returned is the pixel, which has its marker where every pixel has. -/
theorem getReturnsStoredWord : Obligations.GetReturnsStoredWord := fun s index hlt =>
  ⟨_, execGetPixel_inside hlt, rfl, rfl, fun hm => hm index.toNat hlt, giveResult_retire_frame s _⟩

/-- Settles O31: outside the buffer GET only raises its fault. -/
theorem getOutsideBufferFaults : Obligations.GetOutsideBufferFaults := fun s _ hge hf =>
  ⟨_, execGetPixel_outside hge, by simp [hf, addFault_nil], sameBlock_raiseFault s _⟩

/-- Settles O32: PIXELCOUNT returns N, and neither an instruction, an `IllegalCommand` nor an idle turn changes it. -/
theorem pixelCountReturnsStrandLength : Obligations.PixelCountReturnsStrandLength := by
  refine ⟨fun s => ⟨_, rfl, rfl, rfl, giveResult_retire_frame s s.numLeds⟩, fun s t h => ?_⟩
  exact step_preserves (P := fun t => t.numLeds = s.numLeds) h rfl (fun _ => rfl) fun _ hx =>
    exec_keeps_numLeds (s := s.takeTurn) hx

end Sys2Proof.Machine
end

section
/-! ### TICK in each phase, and the grid of 32 (41_sequencer.md R130 to R138, R142) -/

namespace Sys2Proof.Machine

variable {i : Instr} {s s' t : State}

/-! #### The grid of 32 -/

/-- A TICK enters HEADER only from IDLE, where its increment wraps the counter to 0 (41_sequencer.md R132). -/
theorem execTick_enters_header (h : execTick s = .next t) (hs : s.phase ≠ .header) (ht : t.phase = .header) :
    s.running = true ∧ s.phase = .idle ∧ s.tick + 1#5 = 0#5 := by
  rcases execTick_cases h with
    ⟨-, rfl⟩ | ⟨hr, ⟨hp, rfl⟩ | ⟨hp, -⟩ | ⟨-, -, -, rfl⟩ | ⟨-, -, -, rfl⟩ | ⟨-, rfl⟩⟩
  · exact absurd ht hs
  · rw [tickIdle_eq] at ht
    split at ht
    · next hwrap => exact ⟨hr, hp, hwrap⟩
    · exact absurd ht hs
  · exact absurd hp hs
  · exact absurd ht hs
  · rw [tickLow_eq] at ht
    split at ht
    · nomatch ht
    · exact absurd ht hs
  · exact absurd ht hs

/-- Only a TICK enters HEADER: every other effect leaves the phase or goes to IDLE. -/
theorem exec_enters_header (h : exec i s = .next t) (hs : s.phase ≠ .header) (ht : t.phase = .header) :
    i = .tick ∧ s.running = true ∧ s.phase = .idle ∧ s.tick + 1#5 = 0#5 := by
  cases exec_effect h with
  | ticked => exact ⟨rfl, execTick_enters_header h hs ht⟩
  | shown => nomatch ht
  | endScheduled => nomatch ht
  | _ => exact absurd ht hs

/-- A byte is emitted exactly when the counter counts. -/
theorem exec_keeps_tickGrid (hg : TickGrid s) (h : exec i s = .next t) : TickGrid t := by
  unfold TickGrid at *
  rcases exec_emits_and_counts h with ⟨-, -, ⟨b, hlog⟩, htick⟩ | ⟨-, hlog, htick⟩
  · rw [hlog, htick, BitVec.toNat_add, List.length_append, BitVec.toNat_ofNat, hg, List.length_singleton]
    omega
  · rw [hlog, htick, hg]

theorem step_keeps_tickGrid (hg : TickGrid s) (h : step s = .next t) : TickGrid t := by
  have hturn : TickGrid s.takeTurn := hg
  exact step_preserves h hturn (fun _ => hturn) fun _ hx => exec_keeps_tickGrid hturn hx

/-- Settles O21: every instruction keeps the grid, and the TICK that enters HEADER leaves the counter at 0. -/
theorem frameStartsOnGridOfThirtyTwo : Obligations.FrameStartsOnGridOfThirtyTwo := by
  refine ⟨fun s t => step_keeps_tickGrid, fun s t hg h hs ht => ?_⟩
  have hgrid := step_keeps_tickGrid hg h
  refine step_preserves (P := fun t => TickGrid t → t.phase = .header →
    s.phase = .idle ∧ t.txlog.length = s.txlog.length + 1 ∧ t.txlog.length % 32 = 0) h
    (fun _ ht => absurd ht hs) (fun _ _ ht => absurd ht hs) (fun i hx hgrid ht => ?_) hgrid ht
  obtain ⟨rfl, hr, hp, hwrap⟩ := exec_enters_header (s := s.takeTurn) hx hs ht
  have hr : s.running = true := hr
  rcases exec_emits_and_counts hx with ⟨-, -, ⟨b, hlog⟩, htick⟩ | ⟨hno, -⟩
  · have hzero : t.tick = 0#5 := htick.trans hwrap
    refine ⟨hp, by simp [hlog], ?_⟩
    rw [← hgrid, hzero]
    rfl
  · simp [hr] at hno

/-! #### Every instruction answers -/

theorem setColor_answers (i : Instr) (index w : Word16) (s : State) : ∃ t, setColor i index w s = .next t := by
  by_cases hlt : index.toNat < s.numLeds.toNat
  · cases hf : s.inFlight with
    | true => exact ⟨_, setColor_inFlight hlt hf⟩
    | false => exact ⟨_, setColor_stores hlt hf⟩
  · exact ⟨_, setColor_outside (Nat.le_of_not_lt hlt)⟩

theorem execGetPixel_answers (index : Word16) (s : State) : ∃ t, execGetPixel index s = .next t := by
  by_cases hlt : index.toNat < s.numLeds.toNat
  · exact ⟨_, execGetPixel_inside hlt⟩
  · exact ⟨_, execGetPixel_outside (Nat.le_of_not_lt hlt)⟩

theorem execFlush_answers (s : State) : ∃ t, execFlush s = .next t := by
  unfold execFlush
  split <;> exact ⟨_, rfl⟩

theorem execBeginBlock_answers (s : State) : ∃ t, execBeginBlock s = .next t := by
  unfold execBeginBlock
  split <;> exact ⟨_, rfl⟩

theorem execEndBlock_answers (s : State) : ∃ t, execEndBlock s = .next t := by
  unfold execEndBlock endFirst endSecond
  split <;> split <;> exact ⟨_, rfl⟩

/-- The one read that could leave the buffer is TICK's in DATA (41_sequencer.md R138). -/
theorem execTick_answers (hlt : s.phase = .data → s.cursor.toNat < s.numLeds.toNat) :
    ∃ t, execTick s = .next t := by
  cases hr : s.running with
  | false => exact ⟨_, execTick_stopped hr⟩
  | true =>
    by_cases hp : s.phase = .data
    · obtain ⟨t, h, -⟩ := execTick_emits_pixel_byte hr hp (hlt hp)
      exact ⟨t, h⟩
    · obtain ⟨t, h, -⟩ := execTick_emits_zero hr hp
      exact ⟨t, h⟩

/-- Settles O22: a TICK's read is inside the buffer by the invariant, and no other instruction can stop. -/
theorem execAnswersUnderInv : Obligations.ExecAnswersUnderInv := by
  intro i s hinv
  obtain ⟨-, -, hseq, -, -⟩ := (blockInv_iff s).mp hinv
  cases i with
  | tick => exact execTick_answers hseq.cursor_lt
  | showFrame => exact ⟨_, rfl⟩
  | flush => exact execFlush_answers s
  | setColorRgb index r g b => exact setColor_answers _ index _ s
  | setColorRaw index word => exact setColor_answers _ index _ s
  | getPixel index => exact execGetPixel_answers index s
  | pixelCount => exact ⟨_, rfl⟩
  | beginBlock => exact execBeginBlock_answers s
  | endBlock => exact execEndBlock_answers s
  | setRefreshRate pct => exact ⟨_, rfl⟩

/-! #### The arms of TICK by the value of their counter -/

theorem tickIdle_of_wrap (h : s.tick.toNat = 31) : tickIdle s = (s.countTick.emit 0x00#8).enterPhase .header := by
  rw [tickIdle_eq, if_pos]
  exact BitVec.eq_of_toNat_eq (by simp [BitVec.toNat_add, h])

theorem tickIdle_of_no_wrap (h : s.tick.toNat ≠ 31) : tickIdle s = s.countTick.emit 0x00#8 := by
  rw [tickIdle_eq, if_neg]
  intro hwrap
  have hzero := congrArg BitVec.toNat hwrap
  have hlt := s.tick.isLt
  simp only [BitVec.toNat_add, BitVec.toNat_ofNat] at hzero
  omega

theorem tickHeader_of_last (h : s.bc.toNat = 3) :
    tickHeader s = (s.countTick.emit 0x00#8).countByte.enterPhase .data := by
  rw [tickHeader_eq, if_pos]
  exact BitVec.eq_of_toNat_eq (by simp [BitVec.toNat_add, h])

theorem tickHeader_of_not_last (h : s.bc.toNat ≠ 3) : tickHeader s = (s.countTick.emit 0x00#8).countByte := by
  rw [tickHeader_eq, if_neg]
  intro hlast
  have hfour := congrArg BitVec.toNat hlast
  have hlt := s.bc.isLt
  simp only [BitVec.toNat_add, BitVec.toNat_ofNat] at hfour
  omega

/-- Inside the buffer the cursor advances without a wrap. -/
theorem cursor_succ_toNat (hlt : s.cursor.toNat < s.numLeds.toNat) :
    (s.cursor + 1#16).toNat = s.cursor.toNat + 1 := by
  have hN := s.numLeds.isLt
  rw [BitVec.toNat_add, BitVec.toNat_ofNat]
  omega

theorem tickLow_of_last (w : Word16) (hlt : s.cursor.toNat < s.numLeds.toNat)
    (h : s.numLeds.toNat ≤ s.cursor.toNat + 1) :
    tickLow s w = (s.countTick.emit (lowByte w)).countByte.advanceCursor.setPhase .done := by
  rw [tickLow_eq, cursor_succ_toNat hlt, if_pos h]

theorem tickLow_of_not_last (w : Word16) (h : s.cursor.toNat + 1 < s.numLeds.toNat) :
    tickLow s w = (s.countTick.emit (lowByte w)).countByte.advanceCursor := by
  rw [tickLow_eq, cursor_succ_toNat (by omega), if_neg (by omega)]

theorem tickLow_counts (s : State) (w : Word16) :
    (tickLow s w).bc = s.bc + 1#8 ∧ (tickLow s w).cursor = s.cursor + 1#16 := by
  rw [tickLow_eq]
  split <;> exact ⟨rfl, rfl⟩

theorem execTick_high (hr : s.running = true) (hp : s.phase = .data) (hlt : s.cursor.toNat < s.numLeds.toNat)
    (hb : s.bc.toNat % 2 = 0) : execTick s = .next (tickHigh s (s.pixel s.cursor.toNat)) := by
  rw [execTick_data hr hp hlt, getLsbD_zero_eq, if_neg (by simp [hb])]

theorem execTick_low (hr : s.running = true) (hp : s.phase = .data) (hlt : s.cursor.toNat < s.numLeds.toNat)
    (hb : s.bc.toNat % 2 = 1) : execTick s = .next (tickLow s (s.pixel s.cursor.toNat)) := by
  rw [execTick_data hr hp hlt, getLsbD_zero_eq, if_pos (by simp [hb])]

/-- What a running TICK leaves alone in every phase, after the counter it counts (41_sequencer.md R131). -/
theorem execTick_frame (hr : s.running = true) (h : execTick s = .next t) :
    t.tick.toNat = (s.tick.toNat + 1) % 32 ∧ SameControl s t ∧ SameValues s t ∧ t.calls = s.calls ∧
      SameBuffer s t ∧ t.fault = s.fault := by
  obtain ⟨b, p, bc, cursor, rfl⟩ := execTick_of_running hr h
  exact ⟨BitVec.toNat_add s.tick 1#5, ⟨rfl, rfl, rfl⟩, ⟨rfl, rfl, rfl⟩, rfl, ⟨rfl, fun _ => rfl⟩, rfl⟩

/-- Settles O34: the IDLE arm by the counter. -/
theorem tickInIdle : Obligations.TickInIdle := by
  intro s hr hp
  have hexec := execTick_idle hr hp
  obtain ⟨htick, hframe⟩ := execTick_frame hr hexec
  refine ⟨_, hexec, tickIdle_txlog s, htick, fun hwrap => ?_, fun hno => ?_, hframe⟩
  · rw [tickIdle_of_wrap hwrap]
    exact ⟨rfl, rfl, rfl⟩
  · rw [tickIdle_of_no_wrap hno]
    exact ⟨hp, rfl, rfl⟩

/-- Settles O35: the HEADER arm by the bytes counted. -/
theorem tickInHeader : Obligations.TickInHeader := by
  intro s hr hp
  have hexec := execTick_header hr hp
  obtain ⟨htick, hframe⟩ := execTick_frame hr hexec
  refine ⟨_, hexec, tickHeader_txlog s, htick, fun hlast => ?_, fun hno => ?_, hframe⟩
  · rw [tickHeader_of_last hlast]
    exact ⟨rfl, rfl, rfl⟩
  · rw [tickHeader_of_not_last hno]
    exact ⟨hp, BitVec.toNat_add s.bc 1#8, rfl⟩

theorem highByte_eq_ofNat (w : Word16) : highByte w = BitVec.ofNat 8 (w.toNat / 256) := by
  rw [← highByte_toNat, BitVec.ofNat_toNat, BitVec.setWidth_eq]

theorem lowByte_eq_ofNat (w : Word16) : lowByte w = BitVec.ofNat 8 (w.toNat % 256) := by
  rw [← lowByte_toNat, BitVec.ofNat_toNat, BitVec.setWidth_eq]

/-- Settles O36: the DATA arm on a high byte. -/
theorem tickSendsHighByte : Obligations.TickSendsHighByte := by
  intro s hr hp hlt hb
  have hexec := execTick_high hr hp hlt hb
  obtain ⟨htick, hframe⟩ := execTick_frame hr hexec
  rw [← highByte_eq_ofNat]
  exact ⟨_, hexec, rfl, htick, BitVec.toNat_add s.bc 1#8, rfl, hp, hframe⟩

/-- Settles O37: the DATA arm on a low byte, by whether the cursor's pixel is the last. -/
theorem tickSendsLowByte : Obligations.TickSendsLowByte := by
  intro s hr hp hlt hb
  have hexec := execTick_low hr hp hlt hb
  obtain ⟨htick, hframe⟩ := execTick_frame hr hexec
  obtain ⟨hbc, hcursor⟩ := tickLow_counts s (s.pixel s.cursor.toNat)
  rw [← lowByte_eq_ofNat]
  refine ⟨_, hexec, tickLow_txlog s _, htick, ?_, ?_, fun hlast => ?_, fun hmore => ?_, hframe⟩
  · rw [hbc]
    exact BitVec.toNat_add s.bc 1#8
  · rw [hcursor, cursor_succ_toNat hlt]
  · rw [tickLow_of_last _ hlt hlast]
    rfl
  · rw [tickLow_of_not_last _ hmore]
    exact hp

/-- Settles O38: the DONE arm counts and emits, and that is all. -/
theorem tickInDone : Obligations.TickInDone := by
  intro s hr hp
  have hexec := execTick_done hr hp
  obtain ⟨htick, hframe⟩ := execTick_frame hr hexec
  exact ⟨_, hexec, rfl, htick, hp, rfl, rfl, hframe⟩

/-! #### What a TICK reads -/

theorem sameSequencer_tickIdle (h : SameSequencer s s') : SameSequencer (tickIdle s) (tickIdle s') := by
  obtain ⟨hp, hb, hc, ht⟩ := h
  rw [tickIdle_eq, tickIdle_eq, ht]
  split <;> simp [SameSequencer, hp, hb, hc, ht]

theorem sameSequencer_tickHeader (h : SameSequencer s s') : SameSequencer (tickHeader s) (tickHeader s') := by
  obtain ⟨hp, hb, hc, ht⟩ := h
  rw [tickHeader_eq, tickHeader_eq, hb]
  split <;> simp [SameSequencer, hp, hb, hc, ht]

theorem sameSequencer_tickHigh (w : Word16) (h : SameSequencer s s') :
    SameSequencer (tickHigh s w) (tickHigh s' w) := by
  obtain ⟨hp, hb, hc, ht⟩ := h
  simp [SameSequencer, tickHigh, hp, hb, hc, ht]

theorem sameSequencer_tickLow (w : Word16) (hn : s'.numLeds = s.numLeds) (h : SameSequencer s s') :
    SameSequencer (tickLow s w) (tickLow s' w) := by
  obtain ⟨hp, hb, hc, ht⟩ := h
  rw [tickLow_eq, tickLow_eq, hn, hc]
  split <;> simp [SameSequencer, hp, hb, hc, ht]

theorem sameSequencer_tickDone (h : SameSequencer s s') : SameSequencer (tickDone s) (tickDone s') := by
  obtain ⟨hp, hb, hc, ht⟩ := h
  simp [SameSequencer, tickDone, hp, hb, hc, ht]

/-- Settles O41: both states take the same arm of TICK, and each arm writes the same registers and byte in both. -/
theorem tickReadsOnlyItsInputs : Obligations.TickReadsOnlyItsInputs := by
  intro s s' t hseq hrun hn hpix hr h
  have ⟨hphase, hbc, hcursor, _⟩ := hseq
  have hr' : s'.running = true := hrun.trans hr
  have hpix' : s'.pixel s'.cursor.toNat = s.pixel s.cursor.toNat := by rw [hcursor, hpix]
  rcases execTick_cases h with
    ⟨hstop, -⟩ | ⟨-, ⟨hp, rfl⟩ | ⟨hp, rfl⟩ | ⟨hp, hlt, hb, rfl⟩ | ⟨hp, hlt, hb, rfl⟩ | ⟨hp, rfl⟩⟩
  · simp [hr] at hstop
  · exact ⟨_, _, execTick_idle hr' (hphase.trans hp), sameSequencer_tickIdle hseq, tickIdle_txlog s, tickIdle_txlog s'⟩
  · exact ⟨_, _, execTick_header hr' (hphase.trans hp), sameSequencer_tickHeader hseq, tickHeader_txlog s,
      tickHeader_txlog s'⟩
  · have hexec := (execTick_data hr' (hphase.trans hp) (by rwa [hcursor, hn])).trans (if_neg (by simpa [hbc] using hb))
    rw [hpix'] at hexec
    exact ⟨_, _, hexec, sameSequencer_tickHigh _ hseq, rfl, rfl⟩
  · have hexec := (execTick_data hr' (hphase.trans hp) (by rwa [hcursor, hn])).trans (if_pos (by rw [hbc, hb]))
    rw [hpix'] at hexec
    exact ⟨_, _, hexec, sameSequencer_tickLow _ hn hseq, tickLow_txlog s _, tickLow_txlog s' _⟩
  · exact ⟨_, _, execTick_done hr' (hphase.trans hp), sameSequencer_tickDone hseq, rfl, rfl⟩

end Sys2Proof.Machine
end

section
/-! ### Runs of events, and the dwell in IDLE (41_sequencer.md R133, R141) -/

namespace Sys2Proof.Machine

variable {i : Instr} {s t u : State} {is js : List Instr} {k m n : Nat}

/-! #### Runs -/

theorem runEvents_cons (h : exec i s = .next t) (is : List Instr) : runEvents (i :: is) s = runEvents is t := by
  rw [runEvents, h]

/-- A run that answers a state begins with an instruction that answers one. -/
theorem runEvents_cons_eq_next (h : runEvents (i :: is) s = .next t) :
    ∃ u, exec i s = .next u ∧ runEvents is u = .next t := by
  rw [runEvents] at h
  split at h
  · next u hu => exact ⟨u, hu, h⟩
  · nomatch h
  · nomatch h

theorem runEvents_append (h : runEvents is s = .next u) : runEvents (is ++ js) s = runEvents js u := by
  induction is generalizing s with
  | nil =>
    cases h
    rfl
  | cons i is ih =>
    obtain ⟨v, hv, hu⟩ := runEvents_cons_eq_next h
    rw [List.cons_append, runEvents_cons hv, ih hu]

theorem runEvents_append_eq_next (h : runEvents (is ++ js) s = .next t) :
    ∃ u, runEvents is s = .next u ∧ runEvents js u = .next t := by
  induction is generalizing s with
  | nil => exact ⟨s, rfl, h⟩
  | cons i is ih =>
    obtain ⟨v, hv, hrest⟩ := runEvents_cons_eq_next h
    obtain ⟨u, hu, ht⟩ := ih hrest
    exact ⟨u, (runEvents_cons hv is).trans hu, ht⟩

theorem runTicks_add (h : runTicks k s = .next u) (m : Nat) : runTicks (k + m) s = runTicks m u := by
  unfold runTicks at *
  rw [List.replicate_add, runEvents_append h]

theorem runTicks_one (h : exec .tick s = .next t) : runTicks 1 s = .next t := runEvents_cons h []

/-- Until the count `n`, a state of `P k` answers a TICK with a state of `P (k + 1)`. -/
def TicksAdvance (n : Nat) (P : Nat → State → Prop) : Prop :=
  ∀ k t, k < n → P k t → ∃ u, exec .tick t = .next u ∧ P (k + 1) u

/-- The instructions of `ok` other than TICK keep `P`. -/
def OthersKeep (ok : Instr → Prop) (P : Nat → State → Prop) : Prop :=
  ∀ i k t u, ok i → i ≠ .tick → P k t → exec i t = .next u → P k u

/-- What TICKs advance and all other events of a run keep holds after the run, at the number of its TICKs. -/
theorem runEvents_counts {P : Nat → State → Prop} {ok : Instr → Prop} (hticks : TicksAdvance n P)
    (hothers : OthersKeep ok P) (hok : ∀ i ∈ is, ok i) (hn : k + is.count .tick ≤ n) (hs : P k s)
    (h : runEvents is s = .next t) : P (k + is.count .tick) t := by
  induction is generalizing s k with
  | nil =>
    cases h
    exact hs
  | cons i is ih =>
    obtain ⟨u, hu, ht⟩ := runEvents_cons_eq_next h
    obtain ⟨hi, his⟩ := List.forall_mem_cons.mp hok
    by_cases htick : i = .tick
    · subst htick
      rw [List.count_cons_self] at hn ⊢
      obtain ⟨u', hu', hP⟩ := hticks k s (by omega) hs
      obtain rfl : u' = u := by simpa [hu'] using hu
      rw [Nat.add_comm _ 1, ← Nat.add_assoc]
      exact ih his (by omega) hP ht
    · rw [List.count_cons_of_ne htick] at hn ⊢
      exact ih his hn (hothers i k s u hi htick hs hu) ht

/-- A run of TICKs exists as far as TICKs advance. -/
theorem runTicks_counts {P : Nat → State → Prop} (hticks : TicksAdvance n P) (hn : k + m ≤ n) (hs : P k s) :
    ∃ t, runTicks m s = .next t ∧ P (k + m) t := by
  induction m with
  | zero => exact ⟨s, rfl, hs⟩
  | succ m ih =>
    obtain ⟨u, hu, hPu⟩ := ih (by omega)
    obtain ⟨t, ht, hPt⟩ := hticks (k + m) u (by omega) hPu
    exact ⟨t, (runTicks_add hu 1).trans (runTicks_one ht), hPt⟩

theorem execTick_keeps_buffer (h : execTick s = .next t) : SameBuffer s t := by
  cases hr : s.running with
  | true =>
    obtain ⟨-, -, -, -, hbuf, -⟩ := execTick_frame hr h
    exact hbuf
  | false =>
    rw [execTick_stopped hr] at h
    cases h
    exact ⟨rfl, fun _ => rfl⟩

theorem SameBuffer.trans (h : SameBuffer s t) (h' : SameBuffer t u) : SameBuffer s u :=
  ⟨h'.1.trans h.1, fun a => (h'.2 a).trans (h.2 a)⟩

theorem SameBuffer.pixel_eq (h : SameBuffer s t) (j : Nat) : t.pixel j = s.pixel j :=
  Memory.readWord_congr h.2 j

/-- TICKs alone write no pixel. -/
theorem runTicks_keeps_buffer (h : runTicks k s = .next t) : SameBuffer s t := by
  induction k generalizing s with
  | zero =>
    cases h
    exact ⟨rfl, fun _ => rfl⟩
  | succ k ih =>
    obtain ⟨u, hu, ht⟩ := runEvents_cons_eq_next h
    exact (execTick_keeps_buffer hu).trans (ih ht)

theorem zeros_succ (k : Nat) : zeros (k + 1) = zeros k ++ [0x00#8] := List.replicate_succ'

/-! #### What the Foreground's instructions keep -/

/-- Only END's second step, which waits for DONE, stops the timer. -/
theorem exec_keeps_running (hi : i ≠ .endBlock ∨ s.phase ≠ .done) (hr : s.running = true) (h : exec i s = .next t) :
    t.running = true := by
  cases exec_effect h with
  | started => rfl
  | endStopped _ hp => simp [hp] at hi
  | _ => exact hr

/-- Only a TICK leaves IDLE. -/
theorem exec_keeps_idle (hi : i ≠ .tick) (hp : s.phase = .idle) (h : exec i s = .next t) : t.phase = .idle := by
  cases exec_effect h with
  | ticked => exact absurd rfl hi
  | shown => rfl
  | endScheduled => rfl
  | _ => exact hp

/-- But for TICK, SHOW and END no instruction writes a register of the sequencer (10_state.md R37). -/
theorem exec_keeps_sequencer (hi : i ≠ .tick) (hshow : i ≠ .showFrame) (hend : i ≠ .endBlock)
    (h : exec i s = .next t) : SameSequencer s t := by
  cases exec_effect h with
  | ticked => exact absurd rfl hi
  | shown => exact absurd rfl hshow
  | endScheduled => exact absurd rfl hend
  | _ => exact ⟨rfl, rfl, rfl, rfl⟩

theorem exec_keeps_txlog (hi : i ≠ .tick) (h : exec i s = .next t) : t.txlog = s.txlog ∧ t.tick = s.tick := by
  rcases exec_emits_and_counts h with ⟨hi', -⟩ | ⟨-, hsame⟩
  · exact absurd hi' hi
  · exact hsame

/-! #### The dwell in IDLE -/

/-- `t` is in IDLE, `k` TICKs after `s`, with the counter not yet wrapped. -/
structure IdleAt (s : State) (k : Nat) (t : State) : Prop where
  running : t.running = true
  numLeds : t.numLeds = s.numLeds
  idle : t.phase = .idle
  tick : t.tick.toNat = s.tick.toNat + k
  log : t.txlog = s.txlog ++ zeros k

theorem idleAt_zero (hr : s.running = true) (hp : s.phase = .idle) : IdleAt s 0 s :=
  ⟨hr, rfl, hp, rfl, (List.append_nil _).symm⟩

/-- A TICK before the last of the dwell stays in IDLE (41_sequencer.md R132). -/
theorem idleAt_ticksAdvance (s : State) : TicksAdvance (31 - s.tick.toNat) (IdleAt s) := by
  intro k t hk ht
  have hno : t.tick.toNat ≠ 31 := by rw [ht.tick]; omega
  refine ⟨_, execTick_idle ht.running ht.idle, ?_⟩
  rw [tickIdle_of_no_wrap hno]
  refine ⟨ht.running, ht.numLeds, ht.idle, ?_, ?_⟩
  · rw [State.emit_tick, State.countTick_tick, BitVec.toNat_add, BitVec.toNat_ofNat, ht.tick]
    omega
  · rw [State.emit_txlog, State.countTick_txlog, ht.log, zeros_succ, List.append_assoc]

theorem idleAt_othersKeep (s : State) : OthersKeep (fun _ => True) (IdleAt s) := by
  intro i k t u _ hi ht h
  obtain ⟨hlog, htick⟩ := exec_keeps_txlog hi h
  exact ⟨exec_keeps_running (.inr (by simp [ht.idle])) ht.running h, (exec_keeps_numLeds h).trans ht.numLeds,
    exec_keeps_idle hi ht.idle h, (congrArg _ htick).trans ht.tick, hlog.trans ht.log⟩

/-- `u` has just entered HEADER, by the TICK that ends the dwell in IDLE of `s`. -/
structure HeaderEntry (s u : State) : Prop where
  running : u.running = true
  numLeds : u.numLeds = s.numLeds
  header : u.phase = .header
  bc : u.bc = 0
  cursor : u.cursor = 0
  tick : u.tick = 0
  log : u.txlog = s.txlog ++ zeros (32 - s.tick.toNat)

theorem IdleAt.enters_header (ht : IdleAt s (31 - s.tick.toNat) t) :
    ∃ u, exec .tick t = .next u ∧ HeaderEntry s u := by
  have hlt := s.tick.isLt
  have hwrap : t.tick.toNat = 31 := by rw [ht.tick]; omega
  refine ⟨_, execTick_idle ht.running ht.idle, ?_⟩
  rw [tickIdle_of_wrap hwrap]
  refine ⟨ht.running, ht.numLeds, rfl, rfl, rfl, ?_, ?_⟩
  · exact BitVec.eq_of_toNat_eq (by simp [BitVec.toNat_add, hwrap])
  · rw [State.enterPhase_txlog, State.emit_txlog, State.countTick_txlog, ht.log, List.append_assoc, ← zeros_succ,
      show 31 - s.tick.toNat + 1 = 32 - s.tick.toNat by omega]

/-- From IDLE, `32 - tick` TICKs enter HEADER (41_sequencer.md R133). -/
theorem runTicks_dwell (hr : s.running = true) (hp : s.phase = .idle) :
    ∃ u, runTicks (32 - s.tick.toNat) s = .next u ∧ HeaderEntry s u := by
  obtain ⟨t, ht, hidle⟩ := runTicks_counts (idleAt_ticksAdvance s) (Nat.zero_add _).le (idleAt_zero hr hp)
  rw [Nat.zero_add] at hidle
  obtain ⟨u, hu, hentry⟩ := hidle.enters_header
  have hlt := s.tick.isLt
  refine ⟨u, ?_, hentry⟩
  rw [show 32 - s.tick.toNat = 31 - s.tick.toNat + 1 by omega, runTicks_add ht]
  exact runTicks_one hu

/-- With any events between them, the TICK after `31 - tick` others enters HEADER. -/
theorem runEvents_dwell (hr : s.running = true) (hp : s.phase = .idle) (hcount : is.count .tick = 31 - s.tick.toNat)
    (h : runEvents (is ++ [.tick]) s = .next u) : HeaderEntry s u := by
  obtain ⟨t, ht, hu⟩ := runEvents_append_eq_next h
  have hidle := runEvents_counts (idleAt_ticksAdvance s) (idleAt_othersKeep s) (fun _ _ => trivial) (by omega)
    (idleAt_zero hr hp) ht
  rw [Nat.zero_add, hcount] at hidle
  obtain ⟨u', hu', hentry⟩ := hidle.enters_header
  rw [runEvents_cons hu'] at hu
  cases hu
  exact hentry

/-- Settles O43: the TICKs before the last of the dwell, the last one, the reset value, and a SHOW in IDLE. -/
theorem idleDwellIsThirtyTwoMinusTick : Obligations.IdleDwellIsThirtyTwoMinusTick := by
  refine ⟨fun s hr hp => ⟨fun k hk => ?_, ?_⟩, fun _ => ⟨rfl, rfl⟩, fun s hp => ?_⟩
  · obtain ⟨t, ht, hidle⟩ := runTicks_counts (m := k) (idleAt_ticksAdvance s) (by omega) (idleAt_zero hr hp)
    rw [Nat.zero_add] at hidle
    exact ⟨t, ht, hidle.idle, hidle.log⟩
  · obtain ⟨u, hu, hentry⟩ := runTicks_dwell hr hp
    exact ⟨u, hu, hentry.header, hentry.bc, hentry.cursor, hentry.tick, hentry.log⟩
  · exact ⟨_, rfl, ⟨⟨hp.symm, rfl, rfl, rfl⟩, ⟨rfl, rfl, rfl⟩, ⟨rfl, rfl, rfl⟩, ⟨rfl, rfl⟩, rfl, fun _ => rfl⟩, rfl⟩

/-- Settles O48: SHOW leaves the timer running and the counter as it was, so the dwell in IDLE follows. -/
theorem showCutsTheFrameShort : Obligations.ShowCutsTheFrameShort := by
  intro s hr _
  have hshown : exec .showFrame s = .next (s.setPhase .idle).retire := rfl
  obtain ⟨v, hv, hentry⟩ := runTicks_dwell (s := (s.setPhase .idle).retire) hr rfl
  exact ⟨_, hshown, rfl, rfl, ⟨_, runTicks_one (execTick_idle hr rfl), tickIdle_txlog _⟩, v, hv, hentry.header,
    hentry.bc, hentry.cursor, hentry.log⟩

end Sys2Proof.Machine
end

section
/-! ### The frame and the whole cycle (41_sequencer.md R139, R143) -/

namespace Sys2Proof.Machine

variable {i : Instr} {s t u : State} {is js : List Instr} {k n : Nat}

/-! #### The bytes of a frame -/

theorem flatMap_wordBytes_length (f : Nat → Word16) (n : Nat) :
    ((List.range n).flatMap fun j => wordBytes (f j)).length = 2 * n := by
  simp [wordBytes, Nat.mul_comm]

theorem frameBytes_length (s : State) : (frameBytes s).length = 2 * s.numLeds.toNat := flatMap_wordBytes_length _ _

/-- Byte `2c + p` of the words one after another is byte `p` of word `c`. -/
theorem flatMap_wordBytes_getElem? (f : Nat → Word16) {c p : Nat} (hc : c < n) (hp : p < 2) :
    ((List.range n).flatMap fun j => wordBytes (f j))[2 * c + p]? = (wordBytes (f c))[p]? := by
  induction n with
  | zero => omega
  | succ n ih =>
    rw [List.range_succ, List.flatMap_append, List.flatMap_singleton]
    by_cases hcn : c < n
    · rw [List.getElem?_append_left (by rw [flatMap_wordBytes_length]; omega), ih hcn]
    · obtain rfl : c = n := by omega
      rw [List.getElem?_append_right (by rw [flatMap_wordBytes_length]; omega), flatMap_wordBytes_length,
        Nat.add_sub_cancel_left]

/-- The bytes of the frame that starts in `s`, before the zero bytes of DONE. -/
def transmission (s : State) : List Byte := zeros 4 ++ frameBytes s

theorem transmission_length (s : State) : (transmission s).length = 4 + 2 * s.numLeds.toNat := by
  rw [transmission, List.length_append, frameBytes_length]
  rfl

/-- The byte that TICK number `k` of a frame emits, the first being number 0. -/
def frameByte (s : State) (k : Nat) : Byte := (transmission s)[k]?.getD 0x00

theorem frameByte_header (s : State) (hk : k < 4) : frameByte s k = 0x00#8 := by
  have hlen : k < (zeros 4).length := hk
  rw [frameByte, transmission, List.getElem?_append_left hlen]
  rw [zeros, List.getElem?_replicate, if_pos hk]
  rfl

theorem frameByte_data {c p : Nat} (hc : c < s.numLeds.toNat) (hp : p < 2) :
    frameByte s (4 + (2 * c + p)) = if p = 1 then lowByte (s.pixel c) else highByte (s.pixel c) := by
  have hlen : (zeros 4).length = 4 := rfl
  rw [frameByte, transmission, List.getElem?_append_right (by omega), hlen, Nat.add_sub_cancel_left, frameBytes,
    flatMap_wordBytes_getElem? _ hc hp]
  interval_cases p <;> rfl

theorem frameByte_done (hk : 4 + 2 * s.numLeds.toNat ≤ k) : frameByte s k = 0x00#8 := by
  rw [frameByte, List.getElem?_eq_none (by rwa [transmission_length])]
  rfl

theorem frameBytes_congr (h : SameBuffer s t) : frameBytes t = frameBytes s := by
  simp only [frameBytes, h.1, h.pixel_eq]

/-- The bytes of `k` TICKs from the entry into HEADER in `s`: the transmission as far as it goes, then zero bytes. -/
def frameSent (s : State) (k : Nat) : List Byte :=
  (transmission s).take k ++ zeros (k - (4 + 2 * s.numLeds.toNat))

theorem frameSent_of_lt (hk : k < 4 + 2 * s.numLeds.toNat) : frameSent s k = (transmission s).take k := by
  rw [frameSent, Nat.sub_eq_zero_of_le hk.le]
  exact List.append_nil _

theorem frameSent_of_ge (hk : 4 + 2 * s.numLeds.toNat ≤ k) :
    frameSent s k = transmission s ++ zeros (k - (4 + 2 * s.numLeds.toNat)) := by
  rw [frameSent, List.take_of_length_le (by rwa [transmission_length])]

theorem frameSent_succ (s : State) (k : Nat) : frameSent s (k + 1) = frameSent s k ++ [frameByte s k] := by
  by_cases hk : k < 4 + 2 * s.numLeds.toNat
  · have hlen : k < (transmission s).length := by rwa [transmission_length]
    rw [frameSent_of_lt hk, frameSent, Nat.sub_eq_zero_of_le hk, List.take_add_one, frameByte,
      List.getElem?_eq_getElem hlen]
    exact List.append_nil _
  · have hge := Nat.le_of_not_lt hk
    rw [frameSent_of_ge hge, frameSent_of_ge (Nat.le_succ_of_le hge), frameByte_done hge, Nat.succ_sub hge, zeros_succ,
      List.append_assoc]

/-! #### The frame -/

/-- Where the sequencer stands `k` TICKs after the entry into HEADER. -/
inductive FramePos (t : State) (k : Nat) : Prop where
  | header (hp : t.phase = .header) (hk : k = t.bc.toNat) (hlt : k < 4)
  | data (hp : t.phase = .data) (hk : k = 4 + (2 * t.cursor.toNat + t.bc.toNat % 2))
      (hlt : t.cursor.toNat < t.numLeds.toNat)
  | done (hp : t.phase = .done) (hge : 4 + 2 * t.numLeds.toNat ≤ k)

theorem FramePos.done_iff (h : FramePos t k) : t.phase = .done ↔ 4 + 2 * t.numLeds.toNat ≤ k := by
  cases h with
  | header hp _ hlt => exact ⟨by simp [hp], by omega⟩
  | data hp hk hlt => exact ⟨by simp [hp], by omega⟩
  | done hp hge => exact ⟨fun _ => hge, fun _ => hp⟩

theorem FramePos.inFlight (h : FramePos t k) (hk : k < 4 + 2 * t.numLeds.toNat) : t.inFlight = true := by
  cases h with
  | header hp => exact t.inFlight_iff.mpr (.inl hp)
  | data hp => exact t.inFlight_iff.mpr (.inr hp)
  | done _ hge => omega

theorem FramePos.of_sameSequencer (h : FramePos t k) (hseq : SameSequencer t u) (hn : u.numLeds = t.numLeds) :
    FramePos u k := by
  obtain ⟨hphase, hbc, hcursor, -⟩ := hseq
  cases h with
  | header hp hk hlt => exact .header (hphase.trans hp) (by rwa [hbc]) hlt
  | data hp hk hlt => exact .data (hphase.trans hp) (by rwa [hbc, hcursor]) (by rwa [hcursor, hn])
  | done hp hge => exact .done (hphase.trans hp) (by rwa [hn])

theorem byte_succ_toNat (b : Byte) : (b + 1#8).toNat = (b.toNat + 1) % 256 := BitVec.toNat_add b 1#8

theorem framePos_tickHeader (hn : t.numLeds ≠ 0) (hp : t.phase = .header) (hlt : t.bc.toNat < 4) :
    FramePos (tickHeader t) (t.bc.toNat + 1) := by
  by_cases hlast : t.bc.toNat = 3
  · rw [tickHeader_of_last hlast, hlast]
    exact .data rfl rfl (numLeds_pos hn)
  · rw [tickHeader_of_not_last hlast]
    have hbc := byte_succ_toNat t.bc
    exact .header hp (by rw [State.countByte_bc, State.emit_bc, State.countTick_bc, hbc]; omega) (by omega)

theorem framePos_tickHigh (w : Word16) (hp : t.phase = .data) (hlt : t.cursor.toNat < t.numLeds.toNat)
    (heven : t.bc.toNat % 2 = 0) : FramePos (tickHigh t w) (4 + (2 * t.cursor.toNat + 1)) := by
  have hbc : (t.bc + 1#8).toNat % 2 = 1 := by rw [byte_succ_toNat]; omega
  exact .data hp (by rw [← hbc]; rfl) hlt

theorem framePos_tickLow (w : Word16) (hp : t.phase = .data) (hlt : t.cursor.toNat < t.numLeds.toNat)
    (hodd : t.bc.toNat % 2 = 1) : FramePos (tickLow t w) (4 + 2 * (t.cursor.toNat + 1)) := by
  by_cases hlast : t.numLeds.toNat ≤ t.cursor.toNat + 1
  · rw [tickLow_of_last w hlt hlast]
    exact .done rfl (by simpa using hlast)
  · have hmore := Nat.lt_of_not_le hlast
    have hbc : (t.bc + 1#8).toNat % 2 = 0 := by rw [byte_succ_toNat]; omega
    have hcursor := cursor_succ_toNat hlt
    rw [tickLow_of_not_last w hmore]
    exact .data hp (by rw [← hcursor, ← Nat.add_zero (2 * _), ← hbc]; rfl) (by rwa [← hcursor] at hmore)

/-- A running TICK takes the sequencer one place on in the frame and emits the frame's byte. -/
theorem FramePos.tick (h : FramePos t k) (hr : t.running = true) (hn : t.numLeds ≠ 0) :
    ∃ u, exec .tick t = .next u ∧ FramePos u (k + 1) ∧ u.txlog = t.txlog ++ [frameByte t k] := by
  cases h with
  | header hp hk hlt =>
    subst hk
    rw [frameByte_header t hlt]
    exact ⟨_, execTick_header hr hp, framePos_tickHeader hn hp hlt, tickHeader_txlog t⟩
  | data hp hk hlt =>
    rw [hk, frameByte_data hlt (Nat.mod_lt _ Nat.two_pos)]
    rcases Nat.mod_two_eq_zero_or_one t.bc.toNat with hb | hb <;> rw [hb]
    · exact ⟨_, execTick_high hr hp hlt hb, framePos_tickHigh _ hp hlt hb, rfl⟩
    · exact ⟨_, execTick_low hr hp hlt hb, framePos_tickLow _ hp hlt hb, tickLow_txlog t _⟩
  | done hp hge =>
    rw [frameByte_done hge]
    exact ⟨_, execTick_done hr hp, .done hp (Nat.le_succ_of_le hge), rfl⟩

/-- `t` is `k` TICKs after the entry into HEADER in `s`, with no SHOW and no END between; until DONE the buffer is as
at the entry. -/
structure FrameAt (s : State) (k : Nat) (t : State) : Prop where
  running : t.running = true
  numLeds : t.numLeds = s.numLeds
  pos : FramePos t k
  buffer : k < 4 + 2 * s.numLeds.toNat → SameBuffer s t
  log : t.txlog = s.txlog ++ frameSent s k

theorem frameAt_zero (hr : s.running = true) (hp : s.phase = .header) (hbc : s.bc = 0) : FrameAt s 0 s :=
  ⟨hr, rfl, .header hp (by rw [hbc]; rfl) (by decide), fun _ => ⟨rfl, fun _ => rfl⟩,
    by simp [frameSent_of_lt (s := s) (k := 0) (by omega)]⟩

/-- The bytes are those of the buffer at the entry, which is stable in flight (41_sequencer.md R139). -/
theorem FrameAt.frameByte_eq (h : FrameAt s k t) : frameByte t k = frameByte s k := by
  by_cases hk : k < 4 + 2 * s.numLeds.toNat
  · rw [frameByte, frameByte, transmission, transmission, frameBytes_congr (h.buffer hk)]
  · have hge := Nat.le_of_not_lt hk
    rw [frameByte_done hge, frameByte_done (by rwa [h.numLeds])]

theorem frameAt_ticksAdvance (hn : s.numLeds ≠ 0) (n : Nat) : TicksAdvance n (FrameAt s) := by
  intro k t _ ht
  obtain ⟨u, hu, hpos, hlog⟩ := ht.pos.tick ht.running (by rwa [ht.numLeds])
  have hbuf := execTick_keeps_buffer hu
  refine ⟨u, hu, exec_keeps_running (i := .tick) (.inl nofun) ht.running hu, hbuf.1.trans ht.numLeds, hpos,
    fun hk => (ht.buffer (Nat.lt_of_succ_lt hk)).trans hbuf, ?_⟩
  rw [hlog, ht.log, ht.frameByte_eq, frameSent_succ, List.append_assoc]

theorem frameAt_othersKeep (s : State) : OthersKeep (fun i => i ≠ .showFrame ∧ i ≠ .endBlock) (FrameAt s) := by
  rintro i k t u ⟨hshow, hend⟩ hi ht h
  have hn := exec_keeps_numLeds h
  exact ⟨exec_keeps_running (.inl hend) ht.running h, hn.trans ht.numLeds,
    ht.pos.of_sameSequencer (exec_keeps_sequencer hi hshow hend h) hn,
    fun hk => (ht.buffer hk).trans (exec_keeps_buffer (ht.pos.inFlight (by rwa [ht.numLeds])) h),
    (exec_keeps_txlog hi h).1.trans ht.log⟩

/-- Before `4 + 2N` TICKs the frame is on its way. -/
theorem FrameAt.before_done (h : FrameAt s k t) (hk : k < 4 + 2 * s.numLeds.toNat) :
    t.phase ≠ .done ∧ t.txlog = s.txlog ++ (zeros 4 ++ frameBytes s).take k := by
  rw [Ne, h.pos.done_iff, h.numLeds, h.log, frameSent_of_lt hk]
  exact ⟨Nat.not_le_of_lt hk, rfl⟩

/-- From `4 + 2N` TICKs on the frame is complete. -/
theorem FrameAt.after_done (h : FrameAt s k t) (hk : 4 + 2 * s.numLeds.toNat ≤ k) :
    t.phase = .done ∧
      t.txlog = s.txlog ++ zeros 4 ++ frameBytes s ++ zeros (k - (4 + 2 * s.numLeds.toNat)) := by
  refine ⟨h.pos.done_iff.mpr (by rwa [h.numLeds]), ?_⟩
  rw [h.log, frameSent_of_ge hk, transmission]
  simp only [List.append_assoc]

/-- Settles O44: `FrameAt` holds at the entry, TICKs advance it and all other events it allows keep it. -/
theorem frameShapeUnderInterleaving : Obligations.FrameShapeUnderInterleaving := by
  intro s t is hp hbc _ hr hn hok h _
  have hframe := runEvents_counts (frameAt_ticksAdvance hn _) (frameAt_othersKeep s) hok le_rfl
    (frameAt_zero hr hp hbc) h
  rw [Nat.zero_add] at hframe
  exact ⟨hframe.before_done, hframe.after_done⟩

/-- Settles O45: the dwell in IDLE, then the frame from the entry into HEADER. -/
theorem fullTransmitCycle : Obligations.FullTransmitCycle := by
  refine ⟨fun s k hp hr hn => ?_, fun s u t is js hp hr hn hcount hu hok ht hf => ?_⟩
  · obtain ⟨u, hu, hentry⟩ := runTicks_dwell hr hp
    have hsame := runTicks_keeps_buffer hu
    have hnu : u.numLeds ≠ 0 := by rwa [hentry.numLeds]
    obtain ⟨t, ht, hframe⟩ := runTicks_counts (m := 4 + 2 * s.numLeds.toNat + k) (frameAt_ticksAdvance hnu _) le_rfl
      (frameAt_zero hentry.running hentry.header hentry.bc)
    obtain ⟨hdone, hlog⟩ := hframe.after_done (by rw [hentry.numLeds]; omega)
    refine ⟨t, ?_, hdone, ?_, hsame.trans (runTicks_keeps_buffer ht)⟩
    · rw [Nat.add_assoc, Nat.add_assoc, runTicks_add hu, ← Nat.add_assoc, ht]
    · rw [hlog, hentry.log, frameBytes_congr hsame, hentry.numLeds,
        show 0 + (4 + 2 * s.numLeds.toNat + k) - (4 + 2 * s.numLeds.toNat) = k by omega]
  · have hentry := runEvents_dwell hr hp hcount hu
    have hshape := frameShapeUnderInterleaving u t js hentry.header hentry.bc hentry.cursor hentry.running
      (by rwa [hentry.numLeds]) hok ht hf
    rw [hentry.numLeds] at hshape
    exact ⟨hentry.header, hentry.bc, hentry.cursor, hentry.log, hshape⟩

end Sys2Proof.Machine
end

section
/-! ### BEGIN, FLUSH, END and SETREFRESHRATE, and the timer (42_driver_control.md R170 to R177) -/

namespace Sys2Proof.Machine

variable {i : Instr} {s t u : State} {k : Nat}

/-! #### Each command by its condition -/

theorem execFlush_in_done (hp : s.phase = .done) : execFlush s = .next s.retire :=
  if_pos (s.done_iff.mpr hp)

theorem execFlush_holds (hp : s.phase ≠ .done) : execFlush s = .next s :=
  if_neg fun hd => hp (s.done_iff.mp hd)

theorem execEndBlock_first (he : s.endPending = false) (hp : s.phase = .idle ∨ s.phase = .done) :
    execEndBlock s = .next (((s.clearBuffer).setPhase .idle).setEndPending true).retire := by
  simp [execEndBlock, endFirst, he, s.not_inFlight_iff.mpr hp]

theorem execEndBlock_second (he : s.endPending = true) (hp : s.phase = .done) :
    execEndBlock s = .next (((s.callPorts endCalls).setRunning false).setEndPending false) := by
  simp [execEndBlock, endSecond, he, s.done_iff.mpr hp]

theorem execEndBlock_holds (he : s.endPending = true) (hp : s.phase ≠ .done) : execEndBlock s = .next s := by
  have hd : s.done ≠ true := fun hd => hp (s.done_iff.mp hd)
  simp [execEndBlock, endSecond, he, hd]

/-- Settles O50: the first BEGIN is four writes, none of them to the sequencer, the values or the buffer. -/
theorem beginStartsTheTimer : Obligations.BeginStartsTheTimer := fun _ hb =>
  ⟨_, execBeginBlock_first hb, rfl, rfl, rfl, rfl, rfl, ⟨rfl, rfl, rfl, rfl⟩, ⟨rfl, rfl, rfl⟩, ⟨rfl, fun _ => rfl⟩, rfl⟩

/-- Settles O52: in DONE the command only retires, and elsewhere it is held. -/
theorem flushCompletesInDone : Obligations.FlushCompletesInDone := fun s =>
  ⟨fun hp => ⟨_, execFlush_in_done hp, sameBlock_retire s, rfl, rfl⟩, execFlush_holds⟩

/-- Settles O53: the clear blackens the N words and no byte above them. -/
theorem endClearsAndSchedules : Obligations.EndClearsAndSchedules := fun s hwf he hp =>
  ⟨_, execEndBlock_first he hp, fun _ hi => s.pixel_clearBuffer hi hwf,
    fun _ ha => Memory.readByte_clearWords_other ha s.pix, rfl, rfl, rfl, rfl, rfl, rfl, rfl, rfl, ⟨rfl, rfl, rfl⟩,
    ⟨rfl, rfl⟩, rfl⟩

/-- Settles O54: END's second step in DONE and elsewhere. -/
theorem endStopsInDone : Obligations.EndStopsInDone := fun _ he =>
  ⟨fun hp => ⟨_, execEndBlock_second he hp, rfl, rfl, rfl, rfl, rfl, ⟨rfl, rfl, rfl, rfl⟩, ⟨rfl, rfl, rfl⟩,
    ⟨rfl, fun _ => rfl⟩, rfl⟩, execEndBlock_holds he⟩

/-- What a SETREFRESHRATE leaves alone: all but the request and the calls. -/
theorem execSetRefreshRate_frame {pct : Byte} (h : execSetRefreshRate pct s = .next t) :
    t.txlog = s.txlog ∧ t.result = s.result ∧ t.returns = s.returns ∧ SameSequencer s t ∧ SameControl s t ∧
      SameBuffer s t ∧ t.fault = s.fault := by
  cases h
  exact ⟨rfl, rfl, rfl, ⟨rfl, rfl, rfl, rfl⟩, ⟨rfl, rfl, rfl⟩, ⟨rfl, fun _ => rfl⟩, rfl⟩

/-- Settles O56: the request and the call, and the frame of SETREFRESHRATE. -/
theorem setRefreshRateRecordsRequest : Obligations.SetRefreshRateRecordsRequest := fun _ _ =>
  ⟨_, rfl, rfl, rfl, execSetRefreshRate_frame rfl⟩

/-! #### The timer, stopped for good or running for a held Foreground -/

/-- After a BEGIN no second one starts the timer (42_driver_control.md R171, R177). -/
theorem exec_keeps_stopped (hb : s.begun = true) (hr : s.running = false) (h : exec i s = .next t) :
    t.running = false := by
  cases exec_effect h with
  | ticked _ _ _ _ hr' => simp [hr] at hr'
  | started hb' => simp [hb] at hb'
  | endStopped => rfl
  | _ => exact hr

theorem exec_keeps_txlog_stopped (hr : s.running = false) (h : exec i s = .next t) : t.txlog = s.txlog := by
  rcases exec_emits_and_counts h with ⟨-, hr', -⟩ | ⟨-, hlog, -⟩
  · simp [hr] at hr'
  · exact hlog

/-- Settles O58: an idle turn and an `IllegalCommand` change none of the three, and every instruction keeps them. -/
theorem stoppedForGood : Obligations.StoppedForGood := by
  intro s t hb hr h
  have hb' : s.takeTurn.begun = true := hb
  have hr' : s.takeTurn.running = false := hr
  exact step_preserves (P := fun t => t.begun = true ∧ t.running = false ∧ t.txlog = s.txlog) h ⟨hb, hr, rfl⟩
    (fun _ => ⟨hb, hr, rfl⟩) fun _ hx =>
    ⟨exec_keeps_begun hb' hx, exec_keeps_stopped hb' hr' hx, exec_keeps_txlog_stopped (s := s.takeTurn) hr' hx⟩

theorem foregroundEnabled_of_cmdHeld (hheld : s.cmdHeld = true) : s.foregroundEnabled = false := by
  simp [State.foregroundEnabled, hheld]

/-- Settles O18: the Timer is the one enabled agent, and its turn leaves the empty schedule empty. -/
theorem heldForegroundLetsTicksRun : Obligations.HeldForegroundLetsTicksRun := by
  intro s hf hs hr hheld
  have hagent : nextAgent s = some .timer := by
    rw [nextAgent_of_unscheduled hs, hr, foregroundEnabled_of_cmdHeld hheld]
    rfl
  have hturn : s.takeTurn = { s with turn := s.turn + 1 } := by
    rw [State.takeTurn, hs, List.tail_nil, ← hs]
  rw [step_of_timer hf hagent, hturn]

/-! #### The refresh rate and the bytes -/

/-- `s'` agrees with `s` on all that a TICK reads (41_sequencer.md R130), and has emitted the same bytes. -/
structure TickAlike (s s' : State) : Prop where
  sequencer : SameSequencer s s'
  running : s'.running = s.running
  buffer : SameBuffer s s'
  log : s'.txlog = s.txlog

theorem SameBuffer.symm (h : SameBuffer s t) : SameBuffer t s := ⟨h.1.symm, fun a => (h.2 a).symm⟩

/-- A TICK keeps two such states alike, whether it runs or raises `TickWhileStopped`. -/
theorem TickAlike.tick {s' : State} (ha : TickAlike s s') (h : exec .tick s = .next t) :
    ∃ t', exec .tick s' = .next t' ∧ TickAlike t t' := by
  cases hr : s.running with
  | true =>
    have hr' : s'.running = true := ha.running.trans hr
    obtain ⟨t', b, h', hseq, hlog, hlog'⟩ :=
      tickReadsOnlyItsInputs s s' t ha.sequencer ha.running ha.buffer.1 (ha.buffer.pixel_eq _) hr h
    obtain ⟨-, ⟨hrun, -, -⟩, -, -, hbuf, -⟩ := execTick_frame hr h
    obtain ⟨-, ⟨hrun', -, -⟩, -, -, hbuf', -⟩ := execTick_frame hr' h'
    exact ⟨t', h', hseq, by rw [hrun, hrun', ha.running], (hbuf.symm.trans ha.buffer).trans hbuf',
      by rw [hlog, hlog', ha.log]⟩
  | false =>
    have hr' : s'.running = false := ha.running.trans hr
    obtain rfl : s.raiseFault (.tickWhileStopped s.phase) = t := by simpa [exec, execTick_stopped hr] using h
    exact ⟨_, execTick_stopped hr', ha.sequencer, ha.running, ha.buffer, ha.log⟩

theorem TickAlike.runTicks {s' : State} (ha : TickAlike s s') (h : runTicks k s = .next u) :
    ∃ u', runTicks k s' = .next u' ∧ TickAlike u u' := by
  induction k generalizing s s' with
  | zero =>
    cases h
    exact ⟨s', rfl, ha⟩
  | succ k ih =>
    obtain ⟨t, ht, hu⟩ := runEvents_cons_eq_next h
    obtain ⟨t', ht', ha'⟩ := ha.tick ht
    obtain ⟨u', hu', hau⟩ := ih ha' hu
    exact ⟨u', (runEvents_cons ht' _).trans hu', hau⟩

/-- Settles O57: a SETREFRESHRATE leaves a state alike, and TICKs keep it so. -/
theorem refreshRateNeverChangesBytes : Obligations.RefreshRateNeverChangesBytes := by
  intro s t u pct k h hu
  obtain ⟨hlog, -, -, hseq, ⟨hrun, -, -⟩, hbuf, -⟩ := execSetRefreshRate_frame h
  obtain ⟨u', hu', ha⟩ := TickAlike.runTicks ⟨hseq, hrun, hbuf, hlog⟩ hu
  exact ⟨u', hu', ha.log, ha.sequencer⟩

end Sys2Proof.Machine
end

section
/-! ### The wait for DONE, and END's black frame (42_driver_control.md R173 to R175) -/

namespace Sys2Proof.Machine

variable {i : Instr} {s t : State} {N : Word16} {k : Nat}

/-! #### The wait for DONE -/

/-- `t` runs at place `k` of a frame of N pixels, whatever was sent before. -/
structure RunsAt (N : Word16) (k : Nat) (t : State) : Prop where
  running : t.running = true
  numLeds : t.numLeds = N
  pos : FramePos t k

theorem runsAt_ticksAdvance (hN : N ≠ 0) (n : Nat) : TicksAdvance n (RunsAt N) := by
  intro k t _ ht
  obtain ⟨u, hu, hpos, -⟩ := ht.pos.tick ht.running (by rwa [ht.numLeds])
  exact ⟨u, hu, exec_keeps_running (i := .tick) (.inl nofun) ht.running hu, (exec_keeps_numLeds hu).trans ht.numLeds,
    hpos⟩

/-- From place `k` of a frame of N pixels the rest of its `4 + 2N` TICKs ends in DONE. -/
theorem FramePos.reaches_done (h : FramePos s k) (hr : s.running = true) (hn : s.numLeds ≠ 0) :
    ∃ t, runTicks (4 + 2 * s.numLeds.toNat - k) s = .next t ∧ t.phase = .done := by
  obtain ⟨t, ht, hat⟩ := runTicks_counts (m := 4 + 2 * s.numLeds.toNat - k) (runsAt_ticksAdvance hn _) le_rfl
    ⟨hr, rfl, h⟩
  exact ⟨t, ht, hat.pos.done_iff.mpr (by rw [hat.numLeds]; omega)⟩

/-- Settles O46: from IDLE the whole cycle, from each other phase the rest of the frame. -/
theorem doneIsReachedWithinBound : Obligations.DoneIsReachedWithinBound := by
  intro s hinv hr
  obtain ⟨⟨hn, -, -⟩, -, hseq, -, -⟩ := (blockInv_iff s).mp hinv
  cases hp : s.phase with
  | idle =>
    obtain ⟨hcycle, -⟩ := fullTransmitCycle
    obtain ⟨t, ht, hdone, -⟩ := hcycle s 0 hp hr hn
    exact ⟨_, t, ht, hdone, by simp⟩
  | header =>
    obtain ⟨t, ht, hdone⟩ := (FramePos.header hp rfl (hseq.header_bc hp)).reaches_done hr hn
    exact ⟨_, t, ht, hdone, by simp⟩
  | data =>
    obtain ⟨t, ht, hdone⟩ := (FramePos.data hp rfl (hseq.cursor_lt hp)).reaches_done hr hn
    exact ⟨_, t, ht, hdone, by simp only [reduceCtorEq, if_true, if_false]; omega⟩
  | done => exact ⟨0, s, rfl, hp, Nat.zero_le _⟩

/-! #### The black frame -/

/-- The bytes of a black buffer (20_memory.md R52, R53). -/
theorem frameBytes_of_black (h : ∀ j, j < s.numLeds.toNat → s.pixel j = blackWord) :
    frameBytes s = (List.replicate s.numLeds.toNat [0x80#8, 0x00#8]).flatten := by
  have hblack : wordBytes blackWord = [0x80#8, 0x00#8] := by decide
  have hwords : (List.range s.numLeds.toNat).map (fun j => wordBytes (s.pixel j)) =
      List.replicate s.numLeds.toNat [0x80#8, 0x00#8] := by
    refine List.eq_replicate_iff.mpr ⟨by simp, fun b hb => ?_⟩
    obtain ⟨j, hj, rfl⟩ := List.mem_map.mp hb
    rw [h j (List.mem_range.mp hj), hblack]
  rw [frameBytes, List.flatMap_def, hwords]

theorem exec_keeps_endPending (hi : i ≠ .endBlock) (h : exec i s = .next t) : t.endPending = s.endPending := by
  obtain ⟨-, -, -, -, hend, -⟩ := writersOfEachField i s t h
  exact not_not.mp (mt hend hi)

theorem runTicks_keeps_endPending (h : runTicks k s = .next t) : t.endPending = s.endPending := by
  induction k generalizing s with
  | zero =>
    cases h
    rfl
  | succ k ih =>
    obtain ⟨u, hu, ht⟩ := runEvents_cons_eq_next h
    exact (ih ht).trans (exec_keeps_endPending (i := .tick) nofun hu)

/-- Settles O55: END's first step leaves a black buffer in IDLE, the full cycle sends it and ends in DONE with END
still waiting, and there its second step stops the timer. -/
theorem endSendsOneBlackFrame : Obligations.EndSendsOneBlackFrame := by
  intro s hinv hr he hp
  obtain ⟨⟨hn, hwf, -⟩, -⟩ := hinv
  obtain ⟨u, hu, hblack, -, hnu, hidle, hpend, -, -, htick, hrun, -, -, ⟨hlogu, -⟩, -⟩ :=
    endClearsAndSchedules s hwf he hp
  obtain ⟨hcycle, -⟩ := fullTransmitCycle
  obtain ⟨v, hv, hdone, hlog, hbuf⟩ := hcycle u 0 hidle (hrun.trans hr) (by rwa [hnu])
  obtain ⟨hstop, -⟩ := endStopsInDone v ((runTicks_keeps_endPending hv).trans hpend)
  obtain ⟨w, hw, hstopped, hcleared, -, -, hlogw, ⟨hphase, -⟩, -, hbufw, -⟩ := hstop hdone
  rw [htick, hnu] at hv
  refine ⟨u, v, w, hu, hv, ?_, hw, hphase.trans hdone, hstopped, hcleared, hlogw, fun j hj => ?_⟩
  · rw [hlog, hlogu, htick, frameBytes_of_black (by rwa [hnu]), hnu]
    simp [zeros, List.replicate_add]
  · rw [hbufw.pixel_eq, hbuf.pixel_eq, hblack j hj]

end Sys2Proof.Machine
end

section
/-! ### The faults, quiescence, and the states without a step (60_exceptions.md R203, R206, R208, R226) -/

namespace Sys2Proof.Machine

variable {i : Instr} {s t : State}

/-! #### Words that spell no command -/

/-- `cmd_in` decodes only the words of commands, and TICK is none (30_encoding.md R77, R78). -/
theorem decodeOn_cmdIn_of_not_command {w : CommandWord} (hw : ∀ i, i ≠ .tick → encode i ≠ w) :
    ∃ e, decodeOn .cmdIn w = .error e := by
  cases hd : decodeOn .cmdIn w with
  | error e => exact ⟨e, rfl⟩
  | ok i =>
    obtain ⟨hdec, hport⟩ := decodeOn_eq_ok_iff.mp hd
    have hi : i ≠ .tick := by
      rintro rfl
      cases hport
    exact absurd (decode_eq_ok_iff.mp hdec) (hw i hi)

theorem step_of_foreground_word {w : CommandWord} {rest : List CommandWord} (hf : s.fault = [])
    (he : s.endPending = false) (ha : nextAgent s = some .foreground) (hc : s.cmdIn = w :: rest) :
    step s = issueWord w s.takeTurn :=
  (step_of_foreground hf ha).trans (foregroundStep_of_word he hc)

/-- Settles O12: the port decodes no such word, and the fault leaves the block as it was. -/
theorem illegalWordsRaiseIllegalCommand : Obligations.IllegalWordsRaiseIllegalCommand := by
  intro s w rest hf he ha hc hw
  obtain ⟨e, hd⟩ := decodeOn_cmdIn_of_not_command hw
  exact ⟨_, (step_of_foreground_word hf he ha hc).trans (issueWord_of_decodeOn_error hd), raiseFault_takeTurn hf _⟩

/-! #### Steps that record a fault -/

/-- An instruction leaves `fault`, or raises a fault and does nothing else. -/
theorem exec_fault_cases (h : exec i s = .next t) : t.fault = s.fault ∨ ∃ r, t = s.raiseFault r := by
  cases exec_effect h with
  | faulted _ r => exact .inr ⟨r, rfl⟩
  | _ => exact .inl rfl

/-- A step comes from a state with no fault; it records none, or one and leaves the block as it was. -/
theorem step_fault_cases (h : step s = .next t) :
    s.fault = [] ∧ (t.fault = [] ∨ ∃ r, t.fault = [r] ∧ SameBlock s t) := by
  obtain ⟨hf, -⟩ := step_cases h
  refine ⟨hf, step_preserves (P := fun t => t.fault = [] ∨ ∃ r, t.fault = [r] ∧ SameBlock s t) h (.inl hf)
    (fun w => .inr ⟨_, raiseFault_takeTurn hf _⟩) fun i hx => ?_⟩
  rcases exec_fault_cases hx with hkept | ⟨r, rfl⟩
  · exact .inl (hkept.trans hf)
  · exact .inr ⟨r, raiseFault_takeTurn hf r⟩

/-- Settles O14: with a fault there is no step, so a step's `fault` grows from the empty list by at most one. -/
theorem faultsAreStickyAndQuiescent : Obligations.FaultsAreStickyAndQuiescent := by
  refine ⟨fun s => step_quiescent, fun s t h => ?_⟩
  obtain ⟨hf, hcases⟩ := step_fault_cases h
  rw [hf]
  refine ⟨List.nil_prefix, fun hne => ?_⟩
  obtain hnone | ⟨r, hr, hsame⟩ := hcases
  · exact absurd hnone hne
  · exact ⟨⟨r, hr⟩, hsame⟩

/-! #### States without a step -/

/-- No agent moves exactly where nothing is scheduled and neither has an enabled step. -/
theorem nextAgent_eq_none_iff :
    nextAgent s = none ↔ s.schedule = [] ∧ s.running = false ∧ s.foregroundEnabled = false := by
  cases hs : s.schedule with
  | nil =>
    rw [nextAgent_of_unscheduled hs]
    cases s.running <;> cases s.foregroundEnabled <;> simp
  | cons a order => simp [nextAgent, hs]

theorem step_of_no_agent (hf : s.fault = []) (ha : nextAgent s = none) : step s = .fault (stuckReason s) := by
  rw [step_of_nextAgent hf, ha]

/-- The Foreground's step answers: an END, an idle turn, a command or an `IllegalCommand`. -/
theorem foregroundStep_answers (hinv : BlockInv s) : ∃ t, foregroundStep s = .next t := by
  cases he : s.endPending with
  | true =>
    rw [foregroundStep_of_endPending he]
    exact execAnswersUnderInv .endBlock s hinv
  | false =>
    cases hc : s.cmdIn with
    | nil => exact ⟨s, foregroundStep_of_no_command he hc⟩
    | cons w rest =>
      rw [foregroundStep_of_word he hc]
      cases hd : decodeOn .cmdIn w with
      | error e => exact ⟨_, issueWord_of_decodeOn_error hd⟩
      | ok i =>
        rw [issueWord_of_decodeOn hd]
        exact execAnswersUnderInv i s hinv

/-- Settles O16: an agent that moves answers by the invariant, and where none moves `step` stops by `stuckReason`. -/
theorem stepsExistUnlessStuck : Obligations.StepsExistUnlessStuck := by
  intro s hinv
  have hturn : BlockInv s.takeTurn := hinv
  by_cases hf : s.fault = []
  · cases ha : nextAgent s with
    | none =>
      obtain ⟨hs, hr, hfg⟩ := nextAgent_eq_none_iff.mp ha
      exact .inr (.inr ⟨hf, hs, hr, hfg, step_of_no_agent hf ha⟩)
    | some agent =>
      left
      cases agent with
      | timer =>
        rw [step_of_timer hf ha]
        exact execAnswersUnderInv .tick s.takeTurn hturn
      | foreground =>
        rw [step_of_foreground hf ha]
        exact foregroundStep_answers hturn
  · exact .inr (.inl ⟨hf, step_quiescent hf⟩)

/-! #### Writes to the buffer -/

theorem execEndBlock_inFlight (he : s.endPending = false) (hp : s.phase = .header ∨ s.phase = .data) :
    execEndBlock s = .next (s.raiseFault (.midFrameWrite (encode .endBlock) s.phase)) := by
  simp [execEndBlock, endFirst, he, s.inFlight_iff.mpr hp]

/-- The instruction writes the buffer in `s`, if no frame is in flight: a SETCOLOR in range, or END's first step
(60_exceptions.md R206). -/
def IsWrite (s : State) (i : Instr) : Prop :=
  (∃ index w, IsSetColor i index w ∧ index.toNat < s.numLeds.toNat) ∨ (i = .endBlock ∧ s.endPending = false)

theorem IsWrite.exec_inFlight (hi : IsWrite s i) (hp : s.phase = .header ∨ s.phase = .data) :
    exec i s = .next (s.raiseFault (.midFrameWrite (encode i) s.phase)) := by
  obtain ⟨index, w, hset, hlt⟩ | ⟨rfl, he⟩ := hi
  · exact (exec_of_isSetColor hset s).trans (setColor_inFlight hlt (s.inFlight_iff.mpr hp))
  · exact execEndBlock_inFlight he hp

theorem IsWrite.exec_keeps_fault (hi : IsWrite s i) (hp : s.phase = .idle ∨ s.phase = .done) :
    ∃ t, exec i s = .next t ∧ t.fault = s.fault := by
  obtain ⟨index, w, hset, hlt⟩ | ⟨rfl, he⟩ := hi
  · exact ⟨_, (exec_of_isSetColor hset s).trans (setColor_stores hlt (s.not_inFlight_iff.mpr hp)), rfl⟩
  · exact ⟨_, execEndBlock_first he hp, rfl⟩

/-- Settles O28: each of the three instructions is a write, which the phase alone makes fault. -/
theorem writesInFlightRaiseMidFrameWrite : Obligations.WritesInFlightRaiseMidFrameWrite := by
  intro s i hf hform
  have hi : IsWrite s i := by
    obtain ⟨index, r, g, b, rfl, hlt⟩ | ⟨index, word, rfl, hlt⟩ | hend := hform
    · exact .inl ⟨index, _, .inl ⟨r, g, b, rfl, rfl⟩, hlt⟩
    · exact .inl ⟨index, _, .inr ⟨word, rfl, rfl⟩, hlt⟩
    · exact .inr hend
  refine ⟨fun hp => ⟨_, hi.exec_inFlight hp, by simp [hf, addFault_nil], sameBlock_raiseFault s _⟩, fun hp => ?_⟩
  obtain ⟨t, hx, ht⟩ := hi.exec_keeps_fault hp
  exact ⟨t, hx, ht.trans hf⟩

end Sys2Proof.Machine
end

section
/-! ### The construction, SHOW's one write, and the wait without a timer (70_reset_and_hazards.md R230 to R232, R241) -/

namespace Sys2Proof.Machine

variable {s t : State}

/-! #### The wait without a timer -/

theorem decodeOn_cmdIn_encode_flush : decodeOn .cmdIn (encode .flush) = .ok .flush :=
  decodeOn_eq_ok_iff.mpr ⟨decode_eq_ok_iff.mpr rfl, rfl⟩

theorem nextIsFlush_of_cmdIn {rest : List CommandWord} (hc : s.cmdIn = encode .flush :: rest) :
    s.nextIsFlush = true := by
  simp [State.nextIsFlush, hc, decodeOn_cmdIn_encode_flush]

theorem HeldStopped.cmdHeld (hs : HeldStopped s) : s.cmdHeld = true := by
  obtain ⟨-, hp, hwait⟩ := hs
  have hdone : s.done = false := Bool.eq_false_iff.mpr fun hd => hp (s.done_iff.mp hd)
  obtain he | ⟨rest, hc⟩ := hwait
  · simp [State.cmdHeld, he, hdone]
  · simp [State.cmdHeld, nextIsFlush_of_cmdIn hc, hdone]

theorem HeldStopped.nextAgent_eq_none (hs : HeldStopped s) (hsched : s.schedule = []) : nextAgent s = none := by
  have ⟨hr, _⟩ := hs
  exact nextAgent_eq_none_iff.mpr ⟨hsched, hr, foregroundEnabled_of_cmdHeld hs.cmdHeld⟩

/-- The Foreground's turn is END's second step or FLUSH, and both hold outside DONE (42_driver_control.md R172,
R174). -/
theorem HeldStopped.foregroundStep_holds (hs : HeldStopped s) : foregroundStep s = .next s := by
  obtain ⟨-, hp, hwait⟩ := hs
  cases he : s.endPending with
  | true => exact (foregroundStep_of_endPending he).trans (execEndBlock_holds he hp)
  | false =>
    obtain ⟨rest, hc⟩ := hwait.resolve_left (by simp [he])
    calc foregroundStep s = issueWord (encode .flush) s := foregroundStep_of_word he hc
      _ = execFlush s := issueWord_of_decodeOn decodeOn_cmdIn_encode_flush
      _ = .next s := execFlush_holds hp

/-- A turn writes only the model's own `schedule` and `turn`. -/
theorem sameBlock_takeTurn (s : State) : SameBlock s s.takeTurn :=
  ⟨⟨rfl, rfl, rfl, rfl⟩, ⟨rfl, rfl, rfl⟩, ⟨rfl, rfl, rfl⟩, ⟨rfl, rfl⟩, rfl, fun _ => rfl⟩

theorem HeldStopped.takeTurn (hs : HeldStopped s) : HeldStopped s.takeTurn := hs

/-- A scheduled TICK of the stopped Timer would record `TickWhileStopped`, so the turn was the held Foreground's. -/
theorem HeldStopped.eq_takeTurn_of_step (hs : HeldStopped s) (h : step s = .next t) (ht : t.fault = []) :
    t = s.takeTurn := by
  obtain ⟨hf, ⟨-, htick⟩ | ⟨ha, -⟩⟩ := step_cases h
  · obtain ⟨hr, -⟩ := hs
    have hfault : t = s.takeTurn.raiseFault (.tickWhileStopped s.phase) :=
      Host.Outcome.next.inj (htick.symm.trans (execTick_stopped (s := s.takeTurn) hr))
    exact absurd (hfault ▸ ht) (addFault_ne_nil _ _)
  · rw [step_of_foreground hf ha, hs.takeTurn.foregroundStep_holds] at h
    exact (Host.Outcome.next.inj h).symm

/-- Settles O17: a step without a fault only takes the turn, and with nothing scheduled neither agent is enabled. -/
theorem waitWithoutTimerIsStuck : Obligations.WaitWithoutTimerIsStuck := by
  refine ⟨fun s t hs h ht => ?_, fun s hs hf hsched => ?_⟩
  · obtain rfl := hs.eq_takeTurn_of_step h ht
    exact ⟨hs.takeTurn, sameBlock_takeTurn s⟩
  · rw [step_of_no_agent hf (hs.nextAgent_eq_none hsched), stuckReason, if_pos hs.cmdHeld]

/-! #### The construction -/

theorem construct_accepts {n : Nat} (hn : 1 ≤ n ∧ n ≤ 65535) :
    construct n = .next (State.constructed (BitVec.ofNat 16 n)) := if_pos hn

theorem construct_refuses {n : Nat} (hn : ¬(1 ≤ n ∧ n ≤ 65535)) : construct n = .refused (.badStrandLength n) :=
  if_neg hn

/-- Settles O8: the accepted lengths fit 16 bits, and the buffer that lists no cell is black. -/
theorem constructionGivesResetValues : Obligations.ConstructionGivesResetValues := by
  refine ⟨fun n hlo hhi => ⟨_, construct_accepts ⟨hlo, hhi⟩, ?_, fun i _ => Memory.readWord_nil i, rfl, rfl, rfl, rfl,
    rfl, rfl, rfl, rfl, rfl, rfl, rfl⟩, fun _ => construct_refuses⟩
  exact (BitVec.toNat_ofNat n 16).trans (Nat.mod_eq_of_lt (by omega))

/-! #### SHOW -/

/-- Settles O47: SHOW writes `phase`, and its retirement moves only the Foreground's position. -/
theorem showWritesOnlyPhase : Obligations.ShowWritesOnlyPhase := by
  intro s
  have hshown : exec .showFrame s = .next (s.setPhase .idle).retire := rfl
  exact ⟨_, hshown, rfl, rfl, rfl, rfl, ⟨rfl, rfl, rfl⟩, ⟨rfl, rfl, rfl⟩, ⟨rfl, rfl⟩, ⟨rfl, fun _ => rfl⟩, rfl⟩

end Sys2Proof.Machine
end
